-- ==== Sys2Proof/Word.lean ====
section
/-! DEFINITION. The two bus widths the machine computes with (spec 00_scope.md R7, R9, R10). -/

namespace Sys2Proof

/-- A 16-bit data or instruction word; bit 0 is the least significant (R9). Its arithmetic is BitVec's, modulo 2^16 (R10). -/
abbrev Word := BitVec 16

/-- A 15-bit address of instruction memory or of data memory (R7, R50). -/
abbrev Addr := BitVec 15

end Sys2Proof
end

