-- ==== Sys2Proof/Config.lean ====
section
/-! DEFINITION. What the spec leaves open: the named parameters of 00_scope.md R8 and the one free value, the answer
of the platform to a read (20_memory.md R57). The parameter `rom` of R8 is a field of the state. -/

namespace Sys2Proof

/-- `CPU_VARIANT` (R8, D1): which function unit the CPU contains. -/
inductive Variant where
  | standard
  | extended
deriving DecidableEq, Repr

/-- `DMEM_WORDS` (R8, D13): how many data words the core's RAM backs. -/
inductive DmemWords where
  | w16384
  | w32768
deriving DecidableEq, Repr

/-- The number `DMEM_WORDS` stands for (20_memory.md R54). -/
def DmemWords.count : DmemWords → Nat
  | .w16384 => 16384
  | .w32768 => 32768

/-- `INIT_POLICY` (R8, D10): what a state element holds before it is first written. -/
inductive InitPolicy where
  | undefined
  | zero
deriving DecidableEq, Repr

/-- `EXT_SELB_LO` (R8, D6): the lowest bit of the Extended ALU's selector B, 4 or 5. -/
inductive SelBLo where
  | four
  | five
deriving DecidableEq, Repr

/-- The parameters of R8 other than `rom`; fixed for a run. -/
structure Params where
  variant : Variant
  dmemWords : DmemWords
  initPolicy : InitPolicy
  extSelBLo : SelBLo
  aslKeepsSign : Bool
deriving DecidableEq, Repr

/-- The defaults of R8. -/
def Params.default : Params :=
  { variant := .standard, dmemWords := .w16384, initPolicy := .undefined, extSelBLo := .four, aslKeepsSign := true }

/-- FREE VALUE (log entry 6). `Config.platformRead n` is the host's answer to the `n`-th platform read of a run, counted
by the state field `draws` (20_memory.md R57: "any value, independently at each read"). It has no body: nothing can be
proved of its values. -/
opaque Config.platformRead : Nat → Word

end Sys2Proof
end

