-- ==== Sys2Proof/Syntax.lean ====
section
/-! DEFINITION. The instruction set as syntax: one constructor of `Instr` for each of the 160 rows of
spec/opcode_table.json, in the table's order (spec 30_encoding.md R90 to R106). A constructor's arguments are the bits
its row's pattern leaves free, so that no bit of a word is lost. -/

namespace Sys2Proof

/-- The destination field `d = dA dD dM` of a C-instruction (30_encoding.md R95, R100): which of A, D and M load the result. -/
structure Dest where
  toA : Bool
  toD : Bool
  toM : Bool
deriving DecidableEq, Repr

/-- The jump field `j = jn jz jp` of a C-instruction (30_encoding.md R95, R101): which signs of the result jump. -/
structure Jump where
  onNeg : Bool
  onZero : Bool
  onPos : Bool
deriving DecidableEq, Repr

/-- The fields of a C-instruction word (30_encoding.md R94, R95): `e = instr[14:13]`, `a = instr[12]` (true selects M),
`c = instr[11:6]`, then the destination and the jump. -/
structure CFields where
  e : BitVec 2
  a : Bool
  c : BitVec 6
  d : Dest
  j : Jump
deriving DecidableEq, Repr

/-- The two instruction formats (30_encoding.md R97): the A-instruction of R92 and the C-instruction of R94. -/
inductive Format where
  | aInstr (v : BitVec 15)
  | cInstr (f : CFields)
deriving DecidableEq, Repr

/-- One constructor per row of spec/opcode_table.json. Rows of format C carry `e` (bits 14:13), which the Standard
variant ignores (R98); the rows of format C-dest and C-jump name one value of a FIELD of a C-instruction and carry every
other field (log entry 9); `ign` is the run of bits that the row's path ignores (47_extended.md R351). -/
inductive Instr where
  -- A-instruction, 44_a_instruction.md R260
  | atValue (v : BitVec 15)
  -- computations, 45_c_compute.md R271 to R298
  | zero (e : BitVec 2) (d : Dest) (j : Jump)
  | one (e : BitVec 2) (d : Dest) (j : Jump)
  | negOne (e : BitVec 2) (d : Dest) (j : Jump)
  | copyD (e : BitVec 2) (d : Dest) (j : Jump)
  | copyA (e : BitVec 2) (d : Dest) (j : Jump)
  | notD (e : BitVec 2) (d : Dest) (j : Jump)
  | notA (e : BitVec 2) (d : Dest) (j : Jump)
  | negD (e : BitVec 2) (d : Dest) (j : Jump)
  | negA (e : BitVec 2) (d : Dest) (j : Jump)
  | incD (e : BitVec 2) (d : Dest) (j : Jump)
  | incA (e : BitVec 2) (d : Dest) (j : Jump)
  | decD (e : BitVec 2) (d : Dest) (j : Jump)
  | decA (e : BitVec 2) (d : Dest) (j : Jump)
  | addDA (e : BitVec 2) (d : Dest) (j : Jump)
  | subDA (e : BitVec 2) (d : Dest) (j : Jump)
  | subAD (e : BitVec 2) (d : Dest) (j : Jump)
  | andDA (e : BitVec 2) (d : Dest) (j : Jump)
  | orDA (e : BitVec 2) (d : Dest) (j : Jump)
  | copyM (e : BitVec 2) (d : Dest) (j : Jump)
  | notM (e : BitVec 2) (d : Dest) (j : Jump)
  | negM (e : BitVec 2) (d : Dest) (j : Jump)
  | incM (e : BitVec 2) (d : Dest) (j : Jump)
  | decM (e : BitVec 2) (d : Dest) (j : Jump)
  | addDM (e : BitVec 2) (d : Dest) (j : Jump)
  | subDM (e : BitVec 2) (d : Dest) (j : Jump)
  | subMD (e : BitVec 2) (d : Dest) (j : Jump)
  | andDM (e : BitVec 2) (d : Dest) (j : Jump)
  | orDM (e : BitVec 2) (d : Dest) (j : Jump)
  -- unnamed ALU codes, 45_c_compute.md R299
  | aluA000001 (e : BitVec 2) (d : Dest) (j : Jump)
  | aluA000011 (e : BitVec 2) (d : Dest) (j : Jump)
  | aluA000100 (e : BitVec 2) (d : Dest) (j : Jump)
  | aluA000101 (e : BitVec 2) (d : Dest) (j : Jump)
  | aluA000110 (e : BitVec 2) (d : Dest) (j : Jump)
  | aluA001000 (e : BitVec 2) (d : Dest) (j : Jump)
  | aluA001001 (e : BitVec 2) (d : Dest) (j : Jump)
  | aluA001010 (e : BitVec 2) (d : Dest) (j : Jump)
  | aluA001011 (e : BitVec 2) (d : Dest) (j : Jump)
  | aluA010000 (e : BitVec 2) (d : Dest) (j : Jump)
  | aluA010001 (e : BitVec 2) (d : Dest) (j : Jump)
  | aluA010010 (e : BitVec 2) (d : Dest) (j : Jump)
  | aluA010100 (e : BitVec 2) (d : Dest) (j : Jump)
  | aluA010110 (e : BitVec 2) (d : Dest) (j : Jump)
  | aluA010111 (e : BitVec 2) (d : Dest) (j : Jump)
  | aluA011000 (e : BitVec 2) (d : Dest) (j : Jump)
  | aluA011001 (e : BitVec 2) (d : Dest) (j : Jump)
  | aluA011010 (e : BitVec 2) (d : Dest) (j : Jump)
  | aluA011011 (e : BitVec 2) (d : Dest) (j : Jump)
  | aluA011100 (e : BitVec 2) (d : Dest) (j : Jump)
  | aluA011101 (e : BitVec 2) (d : Dest) (j : Jump)
  | aluA011110 (e : BitVec 2) (d : Dest) (j : Jump)
  | aluA100000 (e : BitVec 2) (d : Dest) (j : Jump)
  | aluA100001 (e : BitVec 2) (d : Dest) (j : Jump)
  | aluA100010 (e : BitVec 2) (d : Dest) (j : Jump)
  | aluA100011 (e : BitVec 2) (d : Dest) (j : Jump)
  | aluA100100 (e : BitVec 2) (d : Dest) (j : Jump)
  | aluA100101 (e : BitVec 2) (d : Dest) (j : Jump)
  | aluA100110 (e : BitVec 2) (d : Dest) (j : Jump)
  | aluA100111 (e : BitVec 2) (d : Dest) (j : Jump)
  | aluA101000 (e : BitVec 2) (d : Dest) (j : Jump)
  | aluA101001 (e : BitVec 2) (d : Dest) (j : Jump)
  | aluA101011 (e : BitVec 2) (d : Dest) (j : Jump)
  | aluA101100 (e : BitVec 2) (d : Dest) (j : Jump)
  | aluA101101 (e : BitVec 2) (d : Dest) (j : Jump)
  | aluA101110 (e : BitVec 2) (d : Dest) (j : Jump)
  | aluA101111 (e : BitVec 2) (d : Dest) (j : Jump)
  | aluA110100 (e : BitVec 2) (d : Dest) (j : Jump)
  | aluA110101 (e : BitVec 2) (d : Dest) (j : Jump)
  | aluA110110 (e : BitVec 2) (d : Dest) (j : Jump)
  | aluA111000 (e : BitVec 2) (d : Dest) (j : Jump)
  | aluA111001 (e : BitVec 2) (d : Dest) (j : Jump)
  | aluA111011 (e : BitVec 2) (d : Dest) (j : Jump)
  | aluA111100 (e : BitVec 2) (d : Dest) (j : Jump)
  | aluA111101 (e : BitVec 2) (d : Dest) (j : Jump)
  | aluA111110 (e : BitVec 2) (d : Dest) (j : Jump)
  | aluM000001 (e : BitVec 2) (d : Dest) (j : Jump)
  | aluM000011 (e : BitVec 2) (d : Dest) (j : Jump)
  | aluM000100 (e : BitVec 2) (d : Dest) (j : Jump)
  | aluM000101 (e : BitVec 2) (d : Dest) (j : Jump)
  | aluM000110 (e : BitVec 2) (d : Dest) (j : Jump)
  | aluM001000 (e : BitVec 2) (d : Dest) (j : Jump)
  | aluM001001 (e : BitVec 2) (d : Dest) (j : Jump)
  | aluM001010 (e : BitVec 2) (d : Dest) (j : Jump)
  | aluM001011 (e : BitVec 2) (d : Dest) (j : Jump)
  | aluM001100 (e : BitVec 2) (d : Dest) (j : Jump)
  | aluM001101 (e : BitVec 2) (d : Dest) (j : Jump)
  | aluM001110 (e : BitVec 2) (d : Dest) (j : Jump)
  | aluM001111 (e : BitVec 2) (d : Dest) (j : Jump)
  | aluM010000 (e : BitVec 2) (d : Dest) (j : Jump)
  | aluM010001 (e : BitVec 2) (d : Dest) (j : Jump)
  | aluM010010 (e : BitVec 2) (d : Dest) (j : Jump)
  | aluM010100 (e : BitVec 2) (d : Dest) (j : Jump)
  | aluM010110 (e : BitVec 2) (d : Dest) (j : Jump)
  | aluM010111 (e : BitVec 2) (d : Dest) (j : Jump)
  | aluM011000 (e : BitVec 2) (d : Dest) (j : Jump)
  | aluM011001 (e : BitVec 2) (d : Dest) (j : Jump)
  | aluM011010 (e : BitVec 2) (d : Dest) (j : Jump)
  | aluM011011 (e : BitVec 2) (d : Dest) (j : Jump)
  | aluM011100 (e : BitVec 2) (d : Dest) (j : Jump)
  | aluM011101 (e : BitVec 2) (d : Dest) (j : Jump)
  | aluM011110 (e : BitVec 2) (d : Dest) (j : Jump)
  | aluM011111 (e : BitVec 2) (d : Dest) (j : Jump)
  | aluM100000 (e : BitVec 2) (d : Dest) (j : Jump)
  | aluM100001 (e : BitVec 2) (d : Dest) (j : Jump)
  | aluM100010 (e : BitVec 2) (d : Dest) (j : Jump)
  | aluM100011 (e : BitVec 2) (d : Dest) (j : Jump)
  | aluM100100 (e : BitVec 2) (d : Dest) (j : Jump)
  | aluM100101 (e : BitVec 2) (d : Dest) (j : Jump)
  | aluM100110 (e : BitVec 2) (d : Dest) (j : Jump)
  | aluM100111 (e : BitVec 2) (d : Dest) (j : Jump)
  | aluM101000 (e : BitVec 2) (d : Dest) (j : Jump)
  | aluM101001 (e : BitVec 2) (d : Dest) (j : Jump)
  | aluM101010 (e : BitVec 2) (d : Dest) (j : Jump)
  | aluM101011 (e : BitVec 2) (d : Dest) (j : Jump)
  | aluM101100 (e : BitVec 2) (d : Dest) (j : Jump)
  | aluM101101 (e : BitVec 2) (d : Dest) (j : Jump)
  | aluM101110 (e : BitVec 2) (d : Dest) (j : Jump)
  | aluM101111 (e : BitVec 2) (d : Dest) (j : Jump)
  | aluM110100 (e : BitVec 2) (d : Dest) (j : Jump)
  | aluM110101 (e : BitVec 2) (d : Dest) (j : Jump)
  | aluM110110 (e : BitVec 2) (d : Dest) (j : Jump)
  | aluM111000 (e : BitVec 2) (d : Dest) (j : Jump)
  | aluM111001 (e : BitVec 2) (d : Dest) (j : Jump)
  | aluM111010 (e : BitVec 2) (d : Dest) (j : Jump)
  | aluM111011 (e : BitVec 2) (d : Dest) (j : Jump)
  | aluM111100 (e : BitVec 2) (d : Dest) (j : Jump)
  | aluM111101 (e : BitVec 2) (d : Dest) (j : Jump)
  | aluM111110 (e : BitVec 2) (d : Dest) (j : Jump)
  | aluM111111 (e : BitVec 2) (d : Dest) (j : Jump)
  -- destination rows, 46_c_dest_jump.md R311 to R318
  | destNone (e : BitVec 2) (a : Bool) (c : BitVec 6) (j : Jump)
  | destM (e : BitVec 2) (a : Bool) (c : BitVec 6) (j : Jump)
  | destD (e : BitVec 2) (a : Bool) (c : BitVec 6) (j : Jump)
  | destMD (e : BitVec 2) (a : Bool) (c : BitVec 6) (j : Jump)
  | destA (e : BitVec 2) (a : Bool) (c : BitVec 6) (j : Jump)
  | destAM (e : BitVec 2) (a : Bool) (c : BitVec 6) (j : Jump)
  | destAD (e : BitVec 2) (a : Bool) (c : BitVec 6) (j : Jump)
  | destAMD (e : BitVec 2) (a : Bool) (c : BitVec 6) (j : Jump)
  -- jump rows, 46_c_dest_jump.md R321 to R328
  | jumpNone (e : BitVec 2) (a : Bool) (c : BitVec 6) (d : Dest)
  | jumpJGT (e : BitVec 2) (a : Bool) (c : BitVec 6) (d : Dest)
  | jumpJEQ (e : BitVec 2) (a : Bool) (c : BitVec 6) (d : Dest)
  | jumpJGE (e : BitVec 2) (a : Bool) (c : BitVec 6) (d : Dest)
  | jumpJLT (e : BitVec 2) (a : Bool) (c : BitVec 6) (d : Dest)
  | jumpJNE (e : BitVec 2) (a : Bool) (c : BitVec 6) (d : Dest)
  | jumpJLE (e : BitVec 2) (a : Bool) (c : BitVec 6) (d : Dest)
  | jumpJMP (e : BitVec 2) (a : Bool) (c : BitVec 6) (d : Dest)
  -- Extended variant, 47_extended.md R341 to R349
  | mulDA (ign : BitVec 6) (d : Dest) (j : Jump)
  | mulDM (ign : BitVec 6) (d : Dest) (j : Jump)
  | shlA (ign : BitVec 4) (d : Dest) (j : Jump)
  | shlD (a : Bool) (ign : BitVec 4) (d : Dest) (j : Jump)
  | shlM (ign : BitVec 4) (d : Dest) (j : Jump)
  | shrA (ign : BitVec 4) (d : Dest) (j : Jump)
  | shrD (a : Bool) (ign : BitVec 4) (d : Dest) (j : Jump)
  | shrM (ign : BitVec 4) (d : Dest) (j : Jump)
  | mulDAAlias (ign : BitVec 6) (d : Dest) (j : Jump)
  | mulDMAlias (ign : BitVec 6) (d : Dest) (j : Jump)
  -- Extended variant with EXT_SELB_LO = 5, 47_extended.md R351
  | shrALo5 (ign : BitVec 5) (d : Dest) (j : Jump)
  | shrDLo5 (ign : BitVec 5) (d : Dest) (j : Jump)
  | shlMLo5 (ign : BitVec 5) (d : Dest) (j : Jump)
  | shlDLo5 (ign : BitVec 5) (d : Dest) (j : Jump)
  -- Extended variant, standard path, 47_extended.md R350
  | standardPath (a : Bool) (c : BitVec 6) (d : Dest) (j : Jump)
deriving DecidableEq, Repr

end Sys2Proof
end

