-- ==== Sys2Proof/Machine/Flags.lean ====
section
/-! DEFINITION. The flags of a result and the jump condition (spec 42_alu.md R195, R196, R199, R204; 43_cpu_cycle.md
R231). The machine stores no flag (10_state.md R28): they are functions of the result of the same tick. -/

namespace Sys2Proof.Machine

/-- `zr`: all 16 bits of the result are 0 (R195). -/
def flagZr (out : Word) : Bool := out == 0#16

/-- `ng`: bit 15 of the result (R196). -/
def flagNg (out : Word) : Bool := out.getLsbD 15

/-- `pos = !(zr | ng)` (R231). -/
def flagPos (out : Word) : Bool := !(flagZr out || flagNg out)

/-- `jump = (jn & ng) | (jz & zr) | (jp & pos)` (R231, R320). -/
def jumpTaken (j : Jump) (out : Word) : Bool :=
  (j.onNeg && flagNg out) || (j.onZero && flagZr out) || (j.onPos && flagPos out)

end Sys2Proof.Machine
end

