-- ==== Sys2Proof/Machine/Alu.lean ====
section
/-! DEFINITION. The function units (spec 41_arithmetic.md R165, R166, R169; 42_alu.md R190 to R205; 43_cpu_cycle.md
R225, R236). Each is given by its functional contract (00_scope.md R6); the chips they are built from are in Gates.lean
and Arith.lean. -/

namespace Sys2Proof.Machine

/-- The outputs of a function unit (R190). -/
structure FuOut where
  out : Word
  zr : Bool
  ng : Bool
deriving DecidableEq, Repr

/-- A result with its flags (R195, R196, R204). -/
def withFlags (out : Word) : FuOut := ⟨out, flagZr out, flagNg out⟩

/-- The result of the ALU: R191 to R194, with `c[5] = zx`, `c[4] = nx`, `c[3] = zy`, `c[2] = ny`, `c[1] = f`, `c[0] = no`. -/
def aluOut (x y : Word) (c : BitVec 6) : Word :=
  let x1 := if c.getLsbD 5 then 0#16 else x
  let x2 := if c.getLsbD 4 then ~~~x1 else x1
  let y1 := if c.getLsbD 3 then 0#16 else y
  let y2 := if c.getLsbD 2 then ~~~y1 else y1
  let p := if c.getLsbD 1 then x2 + y2 else x2 &&& y2
  if c.getLsbD 0 then ~~~p else p

/-- The ALU (R197). -/
def alu (x y : Word) (c : BitVec 6) : FuOut := withFlags (aluOut x y c)

/-- The arithmetic right shift by one bit (R165). -/
def shiftRight (v : Word) : Word := v.sshiftRight 1

/-- The arithmetic left shift by one bit (R166): with `keep` bit 15 is kept and bit 14 lost, else bit 15 is lost. -/
def shiftLeft (keep : Bool) (v : Word) : Word :=
  if keep then (v &&& 0x8000#16) ||| ((v <<< 1) &&& 0x7FFF#16) else v <<< 1

/-- The multiplier's law (R169). -/
def mul (x y : Word) : Word := x * y

/-- Selector B of the Extended ALU on a 9-bit code: `ext[5:4]`, or `ext[6:5]` with `EXT_SELB_LO = 5` (R202). -/
def selectorB (lo : SelBLo) (ext : BitVec 9) : BitVec 2 :=
  match lo with
  | .four => ext.extractLsb' 4 2
  | .five => ext.extractLsb' 5 2

/-- The shift path (R202): `selB[0]` picks the operand, `selB[1]` the direction. -/
def shiftOut (p : Params) (x y : Word) (ext : BitVec 9) : Word :=
  let selB := selectorB p.extSelBLo ext
  let v := if selB.getLsbD 0 then x else y
  if selB.getLsbD 1 then shiftLeft p.aslKeepsSign v else shiftRight v

/-- The result of the Extended ALU (R201, R205): `selA = ext[8:7]`, 0 and its alias 2 multiply, 1 shifts, 3 is the ALU. -/
def extAluOut (p : Params) (x y : Word) (ext : BitVec 9) : Word :=
  if ext.extractLsb' 7 2 = 0b11#2 then aluOut x y (ext.extractLsb' 0 6)
  else if ext.extractLsb' 7 2 = 0b01#2 then shiftOut p x y ext
  else mul x y

/-- The Extended ALU (R205), its flags recomputed from the selected output (R204). -/
def extAlu (p : Params) (x y : Word) (ext : BitVec 9) : FuOut := withFlags (extAluOut p x y ext)

/-- `ext = instr[14:6]` (R98, R225). -/
def extCode (f : CFields) : BitVec 9 := f.e ++ BitVec.ofBool f.a ++ f.c

/-- The CPU's function unit (R225). -/
def functionUnit (p : Params) (f : CFields) (x y : Word) : FuOut :=
  match p.variant with
  | .standard => alu x y f.c
  | .extended => extAlu p x y (extCode f)

/-- `needX` of R236: the result depends on D. -/
def needsX (p : Params) (f : CFields) : Bool :=
  match p.variant with
  | .standard => !f.c.getLsbD 5
  | .extended =>
    if f.e = 0b11#2 then !f.c.getLsbD 5
    else if f.e = 0b01#2 then (selectorB p.extSelBLo (extCode f)).getLsbD 0
    else true

/-- `needY` of R236: the result depends on the `y` operand. -/
def needsY (p : Params) (f : CFields) : Bool :=
  match p.variant with
  | .standard => !f.c.getLsbD 3
  | .extended =>
    if f.e = 0b11#2 then !f.c.getLsbD 3
    else if f.e = 0b01#2 then !(selectorB p.extSelBLo (extCode f)).getLsbD 0
    else true

end Sys2Proof.Machine
end

