-- ==== Sys2Proof/WellFormed.lean ====
section
/-! DEFINITION. Which instructions a machine with given parameters has: the "variant" column of spec/opcode_table.json
(spec 30_encoding.md R98, R106; 47_extended.md R340, R351). Every operand has the exact width of its field, so nothing
else can be ill-formed (R103: no word is illegal). -/

namespace Sys2Proof

/-- The row is an instruction of a machine with the parameters `p`. -/
def Instr.wellFormed (p : Params) : Instr → Bool
  | .atValue _ => true
  | .zero e _ _ | .one e _ _ | .negOne e _ _ | .copyD e _ _ | .copyA e _ _ | .notD e _ _ | .notA e _ _ | .negD e _ _
  | .negA e _ _ | .incD e _ _ | .incA e _ _ | .decD e _ _ | .decA e _ _ | .addDA e _ _ | .subDA e _ _ | .subAD e _ _
  | .andDA e _ _ | .orDA e _ _ | .copyM e _ _ | .notM e _ _ | .negM e _ _ | .incM e _ _ | .decM e _ _ | .addDM e _ _
  | .subDM e _ _ | .subMD e _ _ | .andDM e _ _ | .orDM e _ _ | .aluA000001 e _ _ | .aluA000011 e _ _
  | .aluA000100 e _ _ | .aluA000101 e _ _ | .aluA000110 e _ _ | .aluA001000 e _ _ | .aluA001001 e _ _
  | .aluA001010 e _ _ | .aluA001011 e _ _ | .aluA010000 e _ _ | .aluA010001 e _ _ | .aluA010010 e _ _
  | .aluA010100 e _ _ | .aluA010110 e _ _ | .aluA010111 e _ _ | .aluA011000 e _ _ | .aluA011001 e _ _
  | .aluA011010 e _ _ | .aluA011011 e _ _ | .aluA011100 e _ _ | .aluA011101 e _ _ | .aluA011110 e _ _
  | .aluA100000 e _ _ | .aluA100001 e _ _ | .aluA100010 e _ _ | .aluA100011 e _ _ | .aluA100100 e _ _
  | .aluA100101 e _ _ | .aluA100110 e _ _ | .aluA100111 e _ _ | .aluA101000 e _ _ | .aluA101001 e _ _
  | .aluA101011 e _ _ | .aluA101100 e _ _ | .aluA101101 e _ _ | .aluA101110 e _ _ | .aluA101111 e _ _
  | .aluA110100 e _ _ | .aluA110101 e _ _ | .aluA110110 e _ _ | .aluA111000 e _ _ | .aluA111001 e _ _
  | .aluA111011 e _ _ | .aluA111100 e _ _ | .aluA111101 e _ _ | .aluA111110 e _ _ | .aluM000001 e _ _
  | .aluM000011 e _ _ | .aluM000100 e _ _ | .aluM000101 e _ _ | .aluM000110 e _ _ | .aluM001000 e _ _
  | .aluM001001 e _ _ | .aluM001010 e _ _ | .aluM001011 e _ _ | .aluM001100 e _ _ | .aluM001101 e _ _
  | .aluM001110 e _ _ | .aluM001111 e _ _ | .aluM010000 e _ _ | .aluM010001 e _ _ | .aluM010010 e _ _
  | .aluM010100 e _ _ | .aluM010110 e _ _ | .aluM010111 e _ _ | .aluM011000 e _ _ | .aluM011001 e _ _
  | .aluM011010 e _ _ | .aluM011011 e _ _ | .aluM011100 e _ _ | .aluM011101 e _ _ | .aluM011110 e _ _
  | .aluM011111 e _ _ | .aluM100000 e _ _ | .aluM100001 e _ _ | .aluM100010 e _ _ | .aluM100011 e _ _
  | .aluM100100 e _ _ | .aluM100101 e _ _ | .aluM100110 e _ _ | .aluM100111 e _ _ | .aluM101000 e _ _
  | .aluM101001 e _ _ | .aluM101010 e _ _ | .aluM101011 e _ _ | .aluM101100 e _ _ | .aluM101101 e _ _
  | .aluM101110 e _ _ | .aluM101111 e _ _ | .aluM110100 e _ _ | .aluM110101 e _ _ | .aluM110110 e _ _
  | .aluM111000 e _ _ | .aluM111001 e _ _ | .aluM111010 e _ _ | .aluM111011 e _ _ | .aluM111100 e _ _
  | .aluM111101 e _ _ | .aluM111110 e _ _ | .aluM111111 e _ _ =>
    p.variant == .standard || e == 0b11#2
  | .destNone _ _ _ _ | .destM _ _ _ _ | .destD _ _ _ _ | .destMD _ _ _ _ | .destA _ _ _ _ | .destAM _ _ _ _
  | .destAD _ _ _ _ | .destAMD _ _ _ _ | .jumpNone _ _ _ _ | .jumpJGT _ _ _ _ | .jumpJEQ _ _ _ _ | .jumpJGE _ _ _ _
  | .jumpJLT _ _ _ _ | .jumpJNE _ _ _ _ | .jumpJLE _ _ _ _ | .jumpJMP _ _ _ _ => true
  | .mulDA _ _ _ | .mulDM _ _ _ | .mulDAAlias _ _ _ | .mulDMAlias _ _ _ | .standardPath _ _ _ _ =>
    p.variant == .extended
  | .shlA _ _ _ | .shlD _ _ _ _ | .shlM _ _ _ | .shrA _ _ _ | .shrD _ _ _ _ | .shrM _ _ _ =>
    p.variant == .extended && p.extSelBLo == .four
  | .shrALo5 _ _ _ | .shrDLo5 _ _ _ | .shlMLo5 _ _ _ | .shlDLo5 _ _ _ =>
    p.variant == .extended && p.extSelBLo == .five

/-- The rows a word is decoded to first: every row but those of format C-dest and C-jump and `standard_path`, whose words
all match a computation row too (log entry 9). -/
def Instr.primary : Instr → Bool
  | .destNone _ _ _ _ | .destM _ _ _ _ | .destD _ _ _ _ | .destMD _ _ _ _ | .destA _ _ _ _ | .destAM _ _ _ _
  | .destAD _ _ _ _ | .destAMD _ _ _ _ | .jumpNone _ _ _ _ | .jumpJGT _ _ _ _ | .jumpJEQ _ _ _ _ | .jumpJGE _ _ _ _
  | .jumpJLT _ _ _ _ | .jumpJNE _ _ _ _ | .jumpJLE _ _ _ _ | .jumpJMP _ _ _ _ | .standardPath _ _ _ _ => false
  | .atValue _ | .zero _ _ _ | .one _ _ _ | .negOne _ _ _ | .copyD _ _ _ | .copyA _ _ _ | .notD _ _ _ | .notA _ _ _
  | .negD _ _ _ | .negA _ _ _ | .incD _ _ _ | .incA _ _ _ | .decD _ _ _ | .decA _ _ _ | .addDA _ _ _ | .subDA _ _ _
  | .subAD _ _ _ | .andDA _ _ _ | .orDA _ _ _ | .copyM _ _ _ | .notM _ _ _ | .negM _ _ _ | .incM _ _ _ | .decM _ _ _
  | .addDM _ _ _ | .subDM _ _ _ | .subMD _ _ _ | .andDM _ _ _ | .orDM _ _ _ | .aluA000001 _ _ _ | .aluA000011 _ _ _
  | .aluA000100 _ _ _ | .aluA000101 _ _ _ | .aluA000110 _ _ _ | .aluA001000 _ _ _ | .aluA001001 _ _ _
  | .aluA001010 _ _ _ | .aluA001011 _ _ _ | .aluA010000 _ _ _ | .aluA010001 _ _ _ | .aluA010010 _ _ _
  | .aluA010100 _ _ _ | .aluA010110 _ _ _ | .aluA010111 _ _ _ | .aluA011000 _ _ _ | .aluA011001 _ _ _
  | .aluA011010 _ _ _ | .aluA011011 _ _ _ | .aluA011100 _ _ _ | .aluA011101 _ _ _ | .aluA011110 _ _ _
  | .aluA100000 _ _ _ | .aluA100001 _ _ _ | .aluA100010 _ _ _ | .aluA100011 _ _ _ | .aluA100100 _ _ _
  | .aluA100101 _ _ _ | .aluA100110 _ _ _ | .aluA100111 _ _ _ | .aluA101000 _ _ _ | .aluA101001 _ _ _
  | .aluA101011 _ _ _ | .aluA101100 _ _ _ | .aluA101101 _ _ _ | .aluA101110 _ _ _ | .aluA101111 _ _ _
  | .aluA110100 _ _ _ | .aluA110101 _ _ _ | .aluA110110 _ _ _ | .aluA111000 _ _ _ | .aluA111001 _ _ _
  | .aluA111011 _ _ _ | .aluA111100 _ _ _ | .aluA111101 _ _ _ | .aluA111110 _ _ _ | .aluM000001 _ _ _
  | .aluM000011 _ _ _ | .aluM000100 _ _ _ | .aluM000101 _ _ _ | .aluM000110 _ _ _ | .aluM001000 _ _ _
  | .aluM001001 _ _ _ | .aluM001010 _ _ _ | .aluM001011 _ _ _ | .aluM001100 _ _ _ | .aluM001101 _ _ _
  | .aluM001110 _ _ _ | .aluM001111 _ _ _ | .aluM010000 _ _ _ | .aluM010001 _ _ _ | .aluM010010 _ _ _
  | .aluM010100 _ _ _ | .aluM010110 _ _ _ | .aluM010111 _ _ _ | .aluM011000 _ _ _ | .aluM011001 _ _ _
  | .aluM011010 _ _ _ | .aluM011011 _ _ _ | .aluM011100 _ _ _ | .aluM011101 _ _ _ | .aluM011110 _ _ _
  | .aluM011111 _ _ _ | .aluM100000 _ _ _ | .aluM100001 _ _ _ | .aluM100010 _ _ _ | .aluM100011 _ _ _
  | .aluM100100 _ _ _ | .aluM100101 _ _ _ | .aluM100110 _ _ _ | .aluM100111 _ _ _ | .aluM101000 _ _ _
  | .aluM101001 _ _ _ | .aluM101010 _ _ _ | .aluM101011 _ _ _ | .aluM101100 _ _ _ | .aluM101101 _ _ _
  | .aluM101110 _ _ _ | .aluM101111 _ _ _ | .aluM110100 _ _ _ | .aluM110101 _ _ _ | .aluM110110 _ _ _
  | .aluM111000 _ _ _ | .aluM111001 _ _ _ | .aluM111010 _ _ _ | .aluM111011 _ _ _ | .aluM111100 _ _ _
  | .aluM111101 _ _ _ | .aluM111110 _ _ _ | .aluM111111 _ _ _ | .mulDA _ _ _ | .mulDM _ _ _ | .shlA _ _ _
  | .shlD _ _ _ _ | .shlM _ _ _ | .shrA _ _ _ | .shrD _ _ _ _ | .shrM _ _ _ | .mulDAAlias _ _ _ | .mulDMAlias _ _ _
  | .shrALo5 _ _ _ | .shrDLo5 _ _ _ | .shlMLo5 _ _ _ | .shlDLo5 _ _ _ => true

end Sys2Proof
end

