-- ==== Sys2Proof/Decode.lean ====
section
/-! DEFINITION. The decoder and the encoder (spec 30_encoding.md R90 to R106). The decoder is total: every one of the
2^16 words is an instruction (R103). -/

namespace Sys2Proof

/-- `e1 e0 = instr[14:13]` (R94). -/
def fieldE (w : Word) : BitVec 2 := w.extractLsb' 13 2

/-- `a = instr[12]` (R95). -/
def fieldA (w : Word) : Bool := w.getLsbD 12

/-- `c = instr[11:6]` (R95). -/
def fieldC (w : Word) : BitVec 6 := w.extractLsb' 6 6

/-- `d = instr[5:3]`: bit 5 is A, bit 4 D, bit 3 M (R95, R96; 90_conflicts.md C1). -/
def fieldD (w : Word) : Dest := ⟨w.getLsbD 5, w.getLsbD 4, w.getLsbD 3⟩

/-- `j = instr[2:0]`: bit 2 is on-negative, bit 1 on-zero, bit 0 on-positive (R95, R96; 90_conflicts.md C2). -/
def fieldJ (w : Word) : Jump := ⟨w.getLsbD 2, w.getLsbD 1, w.getLsbD 0⟩

/-- All fields of a C-instruction word (R94). -/
def fieldsOf (w : Word) : CFields := ⟨fieldE w, fieldA w, fieldC w, fieldD w, fieldJ w⟩

/-- The row of format C for the pair `(a, c)` (R99, R299): `a`, then `zx nx zy ny f no`. -/
def decodeComputation (e : BitVec 2) (a : Bool) (c : BitVec 6) (d : Dest) (j : Jump) : Instr :=
  match a, c.getLsbD 5, c.getLsbD 4, c.getLsbD 3, c.getLsbD 2, c.getLsbD 1, c.getLsbD 0 with
  | false, false, false, false, false, false, false => .andDA e d j
  | false, false, false, false, false, false, true => .aluA000001 e d j
  | false, false, false, false, false, true, false => .addDA e d j
  | false, false, false, false, false, true, true => .aluA000011 e d j
  | false, false, false, false, true, false, false => .aluA000100 e d j
  | false, false, false, false, true, false, true => .aluA000101 e d j
  | false, false, false, false, true, true, false => .aluA000110 e d j
  | false, false, false, false, true, true, true => .subAD e d j
  | false, false, false, true, false, false, false => .aluA001000 e d j
  | false, false, false, true, false, false, true => .aluA001001 e d j
  | false, false, false, true, false, true, false => .aluA001010 e d j
  | false, false, false, true, false, true, true => .aluA001011 e d j
  | false, false, false, true, true, false, false => .copyD e d j
  | false, false, false, true, true, false, true => .notD e d j
  | false, false, false, true, true, true, false => .decD e d j
  | false, false, false, true, true, true, true => .negD e d j
  | false, false, true, false, false, false, false => .aluA010000 e d j
  | false, false, true, false, false, false, true => .aluA010001 e d j
  | false, false, true, false, false, true, false => .aluA010010 e d j
  | false, false, true, false, false, true, true => .subDA e d j
  | false, false, true, false, true, false, false => .aluA010100 e d j
  | false, false, true, false, true, false, true => .orDA e d j
  | false, false, true, false, true, true, false => .aluA010110 e d j
  | false, false, true, false, true, true, true => .aluA010111 e d j
  | false, false, true, true, false, false, false => .aluA011000 e d j
  | false, false, true, true, false, false, true => .aluA011001 e d j
  | false, false, true, true, false, true, false => .aluA011010 e d j
  | false, false, true, true, false, true, true => .aluA011011 e d j
  | false, false, true, true, true, false, false => .aluA011100 e d j
  | false, false, true, true, true, false, true => .aluA011101 e d j
  | false, false, true, true, true, true, false => .aluA011110 e d j
  | false, false, true, true, true, true, true => .incD e d j
  | false, true, false, false, false, false, false => .aluA100000 e d j
  | false, true, false, false, false, false, true => .aluA100001 e d j
  | false, true, false, false, false, true, false => .aluA100010 e d j
  | false, true, false, false, false, true, true => .aluA100011 e d j
  | false, true, false, false, true, false, false => .aluA100100 e d j
  | false, true, false, false, true, false, true => .aluA100101 e d j
  | false, true, false, false, true, true, false => .aluA100110 e d j
  | false, true, false, false, true, true, true => .aluA100111 e d j
  | false, true, false, true, false, false, false => .aluA101000 e d j
  | false, true, false, true, false, false, true => .aluA101001 e d j
  | false, true, false, true, false, true, false => .zero e d j
  | false, true, false, true, false, true, true => .aluA101011 e d j
  | false, true, false, true, true, false, false => .aluA101100 e d j
  | false, true, false, true, true, false, true => .aluA101101 e d j
  | false, true, false, true, true, true, false => .aluA101110 e d j
  | false, true, false, true, true, true, true => .aluA101111 e d j
  | false, true, true, false, false, false, false => .copyA e d j
  | false, true, true, false, false, false, true => .notA e d j
  | false, true, true, false, false, true, false => .decA e d j
  | false, true, true, false, false, true, true => .negA e d j
  | false, true, true, false, true, false, false => .aluA110100 e d j
  | false, true, true, false, true, false, true => .aluA110101 e d j
  | false, true, true, false, true, true, false => .aluA110110 e d j
  | false, true, true, false, true, true, true => .incA e d j
  | false, true, true, true, false, false, false => .aluA111000 e d j
  | false, true, true, true, false, false, true => .aluA111001 e d j
  | false, true, true, true, false, true, false => .negOne e d j
  | false, true, true, true, false, true, true => .aluA111011 e d j
  | false, true, true, true, true, false, false => .aluA111100 e d j
  | false, true, true, true, true, false, true => .aluA111101 e d j
  | false, true, true, true, true, true, false => .aluA111110 e d j
  | false, true, true, true, true, true, true => .one e d j
  | true, false, false, false, false, false, false => .andDM e d j
  | true, false, false, false, false, false, true => .aluM000001 e d j
  | true, false, false, false, false, true, false => .addDM e d j
  | true, false, false, false, false, true, true => .aluM000011 e d j
  | true, false, false, false, true, false, false => .aluM000100 e d j
  | true, false, false, false, true, false, true => .aluM000101 e d j
  | true, false, false, false, true, true, false => .aluM000110 e d j
  | true, false, false, false, true, true, true => .subMD e d j
  | true, false, false, true, false, false, false => .aluM001000 e d j
  | true, false, false, true, false, false, true => .aluM001001 e d j
  | true, false, false, true, false, true, false => .aluM001010 e d j
  | true, false, false, true, false, true, true => .aluM001011 e d j
  | true, false, false, true, true, false, false => .aluM001100 e d j
  | true, false, false, true, true, false, true => .aluM001101 e d j
  | true, false, false, true, true, true, false => .aluM001110 e d j
  | true, false, false, true, true, true, true => .aluM001111 e d j
  | true, false, true, false, false, false, false => .aluM010000 e d j
  | true, false, true, false, false, false, true => .aluM010001 e d j
  | true, false, true, false, false, true, false => .aluM010010 e d j
  | true, false, true, false, false, true, true => .subDM e d j
  | true, false, true, false, true, false, false => .aluM010100 e d j
  | true, false, true, false, true, false, true => .orDM e d j
  | true, false, true, false, true, true, false => .aluM010110 e d j
  | true, false, true, false, true, true, true => .aluM010111 e d j
  | true, false, true, true, false, false, false => .aluM011000 e d j
  | true, false, true, true, false, false, true => .aluM011001 e d j
  | true, false, true, true, false, true, false => .aluM011010 e d j
  | true, false, true, true, false, true, true => .aluM011011 e d j
  | true, false, true, true, true, false, false => .aluM011100 e d j
  | true, false, true, true, true, false, true => .aluM011101 e d j
  | true, false, true, true, true, true, false => .aluM011110 e d j
  | true, false, true, true, true, true, true => .aluM011111 e d j
  | true, true, false, false, false, false, false => .aluM100000 e d j
  | true, true, false, false, false, false, true => .aluM100001 e d j
  | true, true, false, false, false, true, false => .aluM100010 e d j
  | true, true, false, false, false, true, true => .aluM100011 e d j
  | true, true, false, false, true, false, false => .aluM100100 e d j
  | true, true, false, false, true, false, true => .aluM100101 e d j
  | true, true, false, false, true, true, false => .aluM100110 e d j
  | true, true, false, false, true, true, true => .aluM100111 e d j
  | true, true, false, true, false, false, false => .aluM101000 e d j
  | true, true, false, true, false, false, true => .aluM101001 e d j
  | true, true, false, true, false, true, false => .aluM101010 e d j
  | true, true, false, true, false, true, true => .aluM101011 e d j
  | true, true, false, true, true, false, false => .aluM101100 e d j
  | true, true, false, true, true, false, true => .aluM101101 e d j
  | true, true, false, true, true, true, false => .aluM101110 e d j
  | true, true, false, true, true, true, true => .aluM101111 e d j
  | true, true, true, false, false, false, false => .copyM e d j
  | true, true, true, false, false, false, true => .notM e d j
  | true, true, true, false, false, true, false => .decM e d j
  | true, true, true, false, false, true, true => .negM e d j
  | true, true, true, false, true, false, false => .aluM110100 e d j
  | true, true, true, false, true, false, true => .aluM110101 e d j
  | true, true, true, false, true, true, false => .aluM110110 e d j
  | true, true, true, false, true, true, true => .incM e d j
  | true, true, true, true, false, false, false => .aluM111000 e d j
  | true, true, true, true, false, false, true => .aluM111001 e d j
  | true, true, true, true, false, true, false => .aluM111010 e d j
  | true, true, true, true, false, true, true => .aluM111011 e d j
  | true, true, true, true, true, false, false => .aluM111100 e d j
  | true, true, true, true, true, false, true => .aluM111101 e d j
  | true, true, true, true, true, true, false => .aluM111110 e d j
  | true, true, true, true, true, true, true => .aluM111111 e d j

/-- The multiply path: selector A `00`, and its alias `10` (R102; 47_extended.md R341, R342, R349). -/
def decodeMul (f : CFields) : Instr :=
  match f.e.getLsbD 1, f.a with
  | false, false => .mulDA f.c f.d f.j
  | false, true => .mulDM f.c f.d f.j
  | true, false => .mulDAAlias f.c f.d f.j
  | true, true => .mulDMAlias f.c f.d f.j

/-- The shift path with `EXT_SELB_LO = 4`: selector B is `instr[11:10]` (R102; 47_extended.md R343 to R348). -/
def decodeShift4 (f : CFields) : Instr :=
  match f.c.getLsbD 5, f.c.getLsbD 4, f.a with
  | false, false, false => .shrA (f.c.extractLsb' 0 4) f.d f.j
  | false, false, true => .shrM (f.c.extractLsb' 0 4) f.d f.j
  | false, true, a => .shrD a (f.c.extractLsb' 0 4) f.d f.j
  | true, false, false => .shlA (f.c.extractLsb' 0 4) f.d f.j
  | true, false, true => .shlM (f.c.extractLsb' 0 4) f.d f.j
  | true, true, a => .shlD a (f.c.extractLsb' 0 4) f.d f.j

/-- The shift path with `EXT_SELB_LO = 5`: selector B is `instr[12:11]` (47_extended.md R351). -/
def decodeShift5 (f : CFields) : Instr :=
  match f.a, f.c.getLsbD 5 with
  | false, false => .shrALo5 (f.c.extractLsb' 0 5) f.d f.j
  | false, true => .shrDLo5 (f.c.extractLsb' 0 5) f.d f.j
  | true, false => .shlMLo5 (f.c.extractLsb' 0 5) f.d f.j
  | true, true => .shlDLo5 (f.c.extractLsb' 0 5) f.d f.j

/-- The computation a C-instruction word names: the C part of R106. -/
def decodeC (p : Params) (f : CFields) : Instr :=
  match p.variant with
  | .standard => decodeComputation f.e f.a f.c f.d f.j
  | .extended =>
    if f.e = 0b11#2 then decodeComputation f.e f.a f.c f.d f.j
    else if f.e = 0b01#2 then
      match p.extSelBLo with
      | .four => decodeShift4 f
      | .five => decodeShift5 f
    else decodeMul f

/-- The decoder of R106: total on all 16-bit words. A C-instruction word matches one computation row, one destination row
and one jump row at once; it is decoded to the computation row, with its destination and jump as operands (log entry 9). -/
def decode (p : Params) (w : Word) : Instr :=
  if w.getLsbD 15 then decodeC p (fieldsOf w) else .atValue (w.extractLsb' 0 15)

/-- The destination row a C-instruction word matches (R100; 46_c_dest_jump.md R311 to R318). -/
def destRow (f : CFields) : Instr :=
  match f.d.toA, f.d.toD, f.d.toM with
  | false, false, false => .destNone f.e f.a f.c f.j
  | false, false, true => .destM f.e f.a f.c f.j
  | false, true, false => .destD f.e f.a f.c f.j
  | false, true, true => .destMD f.e f.a f.c f.j
  | true, false, false => .destA f.e f.a f.c f.j
  | true, false, true => .destAM f.e f.a f.c f.j
  | true, true, false => .destAD f.e f.a f.c f.j
  | true, true, true => .destAMD f.e f.a f.c f.j

/-- The jump row a C-instruction word matches (R101; 46_c_dest_jump.md R321 to R328). -/
def jumpRow (f : CFields) : Instr :=
  match f.j.onNeg, f.j.onZero, f.j.onPos with
  | false, false, false => .jumpNone f.e f.a f.c f.d
  | false, false, true => .jumpJGT f.e f.a f.c f.d
  | false, true, false => .jumpJEQ f.e f.a f.c f.d
  | false, true, true => .jumpJGE f.e f.a f.c f.d
  | true, false, false => .jumpJLT f.e f.a f.c f.d
  | true, false, true => .jumpJNE f.e f.a f.c f.d
  | true, true, false => .jumpJLE f.e f.a f.c f.d
  | true, true, true => .jumpJMP f.e f.a f.c f.d

/-- Every row of the opcode table that the word matches on a machine with the parameters `p`, the decoded one first. -/
def readings (p : Params) (w : Word) : List Instr :=
  if w.getLsbD 15 then
    let f := fieldsOf w
    let path := if p.variant = .extended ∧ f.e = 0b11#2 then [Instr.standardPath f.a f.c f.d f.j] else []
    decode p w :: path ++ [destRow f, jumpRow f]
  else [decode p w]

/-- The bits `dA dD dM` (R95). -/
def Dest.bits (d : Dest) : BitVec 3 := BitVec.ofBool d.toA ++ BitVec.ofBool d.toD ++ BitVec.ofBool d.toM

/-- The bits `jn jz jp` (R95). -/
def Jump.bits (j : Jump) : BitVec 3 := BitVec.ofBool j.onNeg ++ BitVec.ofBool j.onZero ++ BitVec.ofBool j.onPos

/-- The C-instruction word with the given fields (R94): `1 e1 e0 a c5..c0 dA dD dM jn jz jp`. -/
def encodeC (f : CFields) : Word := 1#1 ++ f.e ++ BitVec.ofBool f.a ++ f.c ++ f.d.bits ++ f.j.bits

/-- The format and the fields of each row's word: the fixed bits of the row and, in the free places, its operands. -/
def Instr.format : Instr → Format
  | .atValue v => .aInstr v
  | .zero e d j => .cInstr ⟨e, false, 0b101010#6, d, j⟩
  | .one e d j => .cInstr ⟨e, false, 0b111111#6, d, j⟩
  | .negOne e d j => .cInstr ⟨e, false, 0b111010#6, d, j⟩
  | .copyD e d j => .cInstr ⟨e, false, 0b001100#6, d, j⟩
  | .copyA e d j => .cInstr ⟨e, false, 0b110000#6, d, j⟩
  | .notD e d j => .cInstr ⟨e, false, 0b001101#6, d, j⟩
  | .notA e d j => .cInstr ⟨e, false, 0b110001#6, d, j⟩
  | .negD e d j => .cInstr ⟨e, false, 0b001111#6, d, j⟩
  | .negA e d j => .cInstr ⟨e, false, 0b110011#6, d, j⟩
  | .incD e d j => .cInstr ⟨e, false, 0b011111#6, d, j⟩
  | .incA e d j => .cInstr ⟨e, false, 0b110111#6, d, j⟩
  | .decD e d j => .cInstr ⟨e, false, 0b001110#6, d, j⟩
  | .decA e d j => .cInstr ⟨e, false, 0b110010#6, d, j⟩
  | .addDA e d j => .cInstr ⟨e, false, 0b000010#6, d, j⟩
  | .subDA e d j => .cInstr ⟨e, false, 0b010011#6, d, j⟩
  | .subAD e d j => .cInstr ⟨e, false, 0b000111#6, d, j⟩
  | .andDA e d j => .cInstr ⟨e, false, 0b000000#6, d, j⟩
  | .orDA e d j => .cInstr ⟨e, false, 0b010101#6, d, j⟩
  | .copyM e d j => .cInstr ⟨e, true, 0b110000#6, d, j⟩
  | .notM e d j => .cInstr ⟨e, true, 0b110001#6, d, j⟩
  | .negM e d j => .cInstr ⟨e, true, 0b110011#6, d, j⟩
  | .incM e d j => .cInstr ⟨e, true, 0b110111#6, d, j⟩
  | .decM e d j => .cInstr ⟨e, true, 0b110010#6, d, j⟩
  | .addDM e d j => .cInstr ⟨e, true, 0b000010#6, d, j⟩
  | .subDM e d j => .cInstr ⟨e, true, 0b010011#6, d, j⟩
  | .subMD e d j => .cInstr ⟨e, true, 0b000111#6, d, j⟩
  | .andDM e d j => .cInstr ⟨e, true, 0b000000#6, d, j⟩
  | .orDM e d j => .cInstr ⟨e, true, 0b010101#6, d, j⟩
  | .aluA000001 e d j => .cInstr ⟨e, false, 0b000001#6, d, j⟩
  | .aluA000011 e d j => .cInstr ⟨e, false, 0b000011#6, d, j⟩
  | .aluA000100 e d j => .cInstr ⟨e, false, 0b000100#6, d, j⟩
  | .aluA000101 e d j => .cInstr ⟨e, false, 0b000101#6, d, j⟩
  | .aluA000110 e d j => .cInstr ⟨e, false, 0b000110#6, d, j⟩
  | .aluA001000 e d j => .cInstr ⟨e, false, 0b001000#6, d, j⟩
  | .aluA001001 e d j => .cInstr ⟨e, false, 0b001001#6, d, j⟩
  | .aluA001010 e d j => .cInstr ⟨e, false, 0b001010#6, d, j⟩
  | .aluA001011 e d j => .cInstr ⟨e, false, 0b001011#6, d, j⟩
  | .aluA010000 e d j => .cInstr ⟨e, false, 0b010000#6, d, j⟩
  | .aluA010001 e d j => .cInstr ⟨e, false, 0b010001#6, d, j⟩
  | .aluA010010 e d j => .cInstr ⟨e, false, 0b010010#6, d, j⟩
  | .aluA010100 e d j => .cInstr ⟨e, false, 0b010100#6, d, j⟩
  | .aluA010110 e d j => .cInstr ⟨e, false, 0b010110#6, d, j⟩
  | .aluA010111 e d j => .cInstr ⟨e, false, 0b010111#6, d, j⟩
  | .aluA011000 e d j => .cInstr ⟨e, false, 0b011000#6, d, j⟩
  | .aluA011001 e d j => .cInstr ⟨e, false, 0b011001#6, d, j⟩
  | .aluA011010 e d j => .cInstr ⟨e, false, 0b011010#6, d, j⟩
  | .aluA011011 e d j => .cInstr ⟨e, false, 0b011011#6, d, j⟩
  | .aluA011100 e d j => .cInstr ⟨e, false, 0b011100#6, d, j⟩
  | .aluA011101 e d j => .cInstr ⟨e, false, 0b011101#6, d, j⟩
  | .aluA011110 e d j => .cInstr ⟨e, false, 0b011110#6, d, j⟩
  | .aluA100000 e d j => .cInstr ⟨e, false, 0b100000#6, d, j⟩
  | .aluA100001 e d j => .cInstr ⟨e, false, 0b100001#6, d, j⟩
  | .aluA100010 e d j => .cInstr ⟨e, false, 0b100010#6, d, j⟩
  | .aluA100011 e d j => .cInstr ⟨e, false, 0b100011#6, d, j⟩
  | .aluA100100 e d j => .cInstr ⟨e, false, 0b100100#6, d, j⟩
  | .aluA100101 e d j => .cInstr ⟨e, false, 0b100101#6, d, j⟩
  | .aluA100110 e d j => .cInstr ⟨e, false, 0b100110#6, d, j⟩
  | .aluA100111 e d j => .cInstr ⟨e, false, 0b100111#6, d, j⟩
  | .aluA101000 e d j => .cInstr ⟨e, false, 0b101000#6, d, j⟩
  | .aluA101001 e d j => .cInstr ⟨e, false, 0b101001#6, d, j⟩
  | .aluA101011 e d j => .cInstr ⟨e, false, 0b101011#6, d, j⟩
  | .aluA101100 e d j => .cInstr ⟨e, false, 0b101100#6, d, j⟩
  | .aluA101101 e d j => .cInstr ⟨e, false, 0b101101#6, d, j⟩
  | .aluA101110 e d j => .cInstr ⟨e, false, 0b101110#6, d, j⟩
  | .aluA101111 e d j => .cInstr ⟨e, false, 0b101111#6, d, j⟩
  | .aluA110100 e d j => .cInstr ⟨e, false, 0b110100#6, d, j⟩
  | .aluA110101 e d j => .cInstr ⟨e, false, 0b110101#6, d, j⟩
  | .aluA110110 e d j => .cInstr ⟨e, false, 0b110110#6, d, j⟩
  | .aluA111000 e d j => .cInstr ⟨e, false, 0b111000#6, d, j⟩
  | .aluA111001 e d j => .cInstr ⟨e, false, 0b111001#6, d, j⟩
  | .aluA111011 e d j => .cInstr ⟨e, false, 0b111011#6, d, j⟩
  | .aluA111100 e d j => .cInstr ⟨e, false, 0b111100#6, d, j⟩
  | .aluA111101 e d j => .cInstr ⟨e, false, 0b111101#6, d, j⟩
  | .aluA111110 e d j => .cInstr ⟨e, false, 0b111110#6, d, j⟩
  | .aluM000001 e d j => .cInstr ⟨e, true, 0b000001#6, d, j⟩
  | .aluM000011 e d j => .cInstr ⟨e, true, 0b000011#6, d, j⟩
  | .aluM000100 e d j => .cInstr ⟨e, true, 0b000100#6, d, j⟩
  | .aluM000101 e d j => .cInstr ⟨e, true, 0b000101#6, d, j⟩
  | .aluM000110 e d j => .cInstr ⟨e, true, 0b000110#6, d, j⟩
  | .aluM001000 e d j => .cInstr ⟨e, true, 0b001000#6, d, j⟩
  | .aluM001001 e d j => .cInstr ⟨e, true, 0b001001#6, d, j⟩
  | .aluM001010 e d j => .cInstr ⟨e, true, 0b001010#6, d, j⟩
  | .aluM001011 e d j => .cInstr ⟨e, true, 0b001011#6, d, j⟩
  | .aluM001100 e d j => .cInstr ⟨e, true, 0b001100#6, d, j⟩
  | .aluM001101 e d j => .cInstr ⟨e, true, 0b001101#6, d, j⟩
  | .aluM001110 e d j => .cInstr ⟨e, true, 0b001110#6, d, j⟩
  | .aluM001111 e d j => .cInstr ⟨e, true, 0b001111#6, d, j⟩
  | .aluM010000 e d j => .cInstr ⟨e, true, 0b010000#6, d, j⟩
  | .aluM010001 e d j => .cInstr ⟨e, true, 0b010001#6, d, j⟩
  | .aluM010010 e d j => .cInstr ⟨e, true, 0b010010#6, d, j⟩
  | .aluM010100 e d j => .cInstr ⟨e, true, 0b010100#6, d, j⟩
  | .aluM010110 e d j => .cInstr ⟨e, true, 0b010110#6, d, j⟩
  | .aluM010111 e d j => .cInstr ⟨e, true, 0b010111#6, d, j⟩
  | .aluM011000 e d j => .cInstr ⟨e, true, 0b011000#6, d, j⟩
  | .aluM011001 e d j => .cInstr ⟨e, true, 0b011001#6, d, j⟩
  | .aluM011010 e d j => .cInstr ⟨e, true, 0b011010#6, d, j⟩
  | .aluM011011 e d j => .cInstr ⟨e, true, 0b011011#6, d, j⟩
  | .aluM011100 e d j => .cInstr ⟨e, true, 0b011100#6, d, j⟩
  | .aluM011101 e d j => .cInstr ⟨e, true, 0b011101#6, d, j⟩
  | .aluM011110 e d j => .cInstr ⟨e, true, 0b011110#6, d, j⟩
  | .aluM011111 e d j => .cInstr ⟨e, true, 0b011111#6, d, j⟩
  | .aluM100000 e d j => .cInstr ⟨e, true, 0b100000#6, d, j⟩
  | .aluM100001 e d j => .cInstr ⟨e, true, 0b100001#6, d, j⟩
  | .aluM100010 e d j => .cInstr ⟨e, true, 0b100010#6, d, j⟩
  | .aluM100011 e d j => .cInstr ⟨e, true, 0b100011#6, d, j⟩
  | .aluM100100 e d j => .cInstr ⟨e, true, 0b100100#6, d, j⟩
  | .aluM100101 e d j => .cInstr ⟨e, true, 0b100101#6, d, j⟩
  | .aluM100110 e d j => .cInstr ⟨e, true, 0b100110#6, d, j⟩
  | .aluM100111 e d j => .cInstr ⟨e, true, 0b100111#6, d, j⟩
  | .aluM101000 e d j => .cInstr ⟨e, true, 0b101000#6, d, j⟩
  | .aluM101001 e d j => .cInstr ⟨e, true, 0b101001#6, d, j⟩
  | .aluM101010 e d j => .cInstr ⟨e, true, 0b101010#6, d, j⟩
  | .aluM101011 e d j => .cInstr ⟨e, true, 0b101011#6, d, j⟩
  | .aluM101100 e d j => .cInstr ⟨e, true, 0b101100#6, d, j⟩
  | .aluM101101 e d j => .cInstr ⟨e, true, 0b101101#6, d, j⟩
  | .aluM101110 e d j => .cInstr ⟨e, true, 0b101110#6, d, j⟩
  | .aluM101111 e d j => .cInstr ⟨e, true, 0b101111#6, d, j⟩
  | .aluM110100 e d j => .cInstr ⟨e, true, 0b110100#6, d, j⟩
  | .aluM110101 e d j => .cInstr ⟨e, true, 0b110101#6, d, j⟩
  | .aluM110110 e d j => .cInstr ⟨e, true, 0b110110#6, d, j⟩
  | .aluM111000 e d j => .cInstr ⟨e, true, 0b111000#6, d, j⟩
  | .aluM111001 e d j => .cInstr ⟨e, true, 0b111001#6, d, j⟩
  | .aluM111010 e d j => .cInstr ⟨e, true, 0b111010#6, d, j⟩
  | .aluM111011 e d j => .cInstr ⟨e, true, 0b111011#6, d, j⟩
  | .aluM111100 e d j => .cInstr ⟨e, true, 0b111100#6, d, j⟩
  | .aluM111101 e d j => .cInstr ⟨e, true, 0b111101#6, d, j⟩
  | .aluM111110 e d j => .cInstr ⟨e, true, 0b111110#6, d, j⟩
  | .aluM111111 e d j => .cInstr ⟨e, true, 0b111111#6, d, j⟩
  | .destNone e a c j => .cInstr ⟨e, a, c, ⟨false, false, false⟩, j⟩
  | .destM e a c j => .cInstr ⟨e, a, c, ⟨false, false, true⟩, j⟩
  | .destD e a c j => .cInstr ⟨e, a, c, ⟨false, true, false⟩, j⟩
  | .destMD e a c j => .cInstr ⟨e, a, c, ⟨false, true, true⟩, j⟩
  | .destA e a c j => .cInstr ⟨e, a, c, ⟨true, false, false⟩, j⟩
  | .destAM e a c j => .cInstr ⟨e, a, c, ⟨true, false, true⟩, j⟩
  | .destAD e a c j => .cInstr ⟨e, a, c, ⟨true, true, false⟩, j⟩
  | .destAMD e a c j => .cInstr ⟨e, a, c, ⟨true, true, true⟩, j⟩
  | .jumpNone e a c d => .cInstr ⟨e, a, c, d, ⟨false, false, false⟩⟩
  | .jumpJGT e a c d => .cInstr ⟨e, a, c, d, ⟨false, false, true⟩⟩
  | .jumpJEQ e a c d => .cInstr ⟨e, a, c, d, ⟨false, true, false⟩⟩
  | .jumpJGE e a c d => .cInstr ⟨e, a, c, d, ⟨false, true, true⟩⟩
  | .jumpJLT e a c d => .cInstr ⟨e, a, c, d, ⟨true, false, false⟩⟩
  | .jumpJNE e a c d => .cInstr ⟨e, a, c, d, ⟨true, false, true⟩⟩
  | .jumpJLE e a c d => .cInstr ⟨e, a, c, d, ⟨true, true, false⟩⟩
  | .jumpJMP e a c d => .cInstr ⟨e, a, c, d, ⟨true, true, true⟩⟩
  | .mulDA ign d j => .cInstr ⟨0b00#2, false, ign, d, j⟩
  | .mulDM ign d j => .cInstr ⟨0b00#2, true, ign, d, j⟩
  | .shlA ign d j => .cInstr ⟨0b01#2, false, 0b10#2 ++ ign, d, j⟩
  | .shlD a ign d j => .cInstr ⟨0b01#2, a, 0b11#2 ++ ign, d, j⟩
  | .shlM ign d j => .cInstr ⟨0b01#2, true, 0b10#2 ++ ign, d, j⟩
  | .shrA ign d j => .cInstr ⟨0b01#2, false, 0b00#2 ++ ign, d, j⟩
  | .shrD a ign d j => .cInstr ⟨0b01#2, a, 0b01#2 ++ ign, d, j⟩
  | .shrM ign d j => .cInstr ⟨0b01#2, true, 0b00#2 ++ ign, d, j⟩
  | .mulDAAlias ign d j => .cInstr ⟨0b10#2, false, ign, d, j⟩
  | .mulDMAlias ign d j => .cInstr ⟨0b10#2, true, ign, d, j⟩
  | .shrALo5 ign d j => .cInstr ⟨0b01#2, false, 0b0#1 ++ ign, d, j⟩
  | .shrDLo5 ign d j => .cInstr ⟨0b01#2, false, 0b1#1 ++ ign, d, j⟩
  | .shlMLo5 ign d j => .cInstr ⟨0b01#2, true, 0b0#1 ++ ign, d, j⟩
  | .shlDLo5 ign d j => .cInstr ⟨0b01#2, true, 0b1#1 ++ ign, d, j⟩
  | .standardPath a c d j => .cInstr ⟨0b11#2, a, c, d, j⟩

/-- The word of an instruction (R92, R94, R99 to R102). -/
def encode (i : Instr) : Word :=
  match i.format with
  | .aInstr v => v.setWidth 16
  | .cInstr f => encodeC f

/-- The instruction the decoder reads from a 16-bit table row's word on a machine with the default parameters of R8; a
word of more than 16 bits is no instruction (R90). -/
def decodeTableWord (nbits w : Nat) : Option Instr :=
  if nbits ≤ 16 ∧ w < 2 ^ 16 then some (decode Params.default (BitVec.ofNat 16 w)) else none

end Sys2Proof
end

