-- ==== Sys2Proof/Machine/State.lean ====
section
/-! DEFINITION. The machine's state as plain data, the reasons a step can stop, and the states a run starts from
(spec 10_state.md R20 to R34; 60_exceptions.md R375, R376, R384; 70_reset_and_hazards.md R403, R405). -/

namespace Sys2Proof.Machine

/-- What a read of an unwritten element names (60_exceptions.md R375). -/
inductive Element where
  | pc
  | d
  | a
  | m
deriving DecidableEq, Repr

/-- The model faults of 60_exceptions.md R375. The hardware raises neither: both are safe. -/
inductive Fault where
  /-- Raised by the fetch and by an instruction that needs the value of an element that holds no value (R235, R236);
  only where `INIT_POLICY = Undefined`. Safe: the hardware computes with what its wires hold. -/
  | readUninit (r : Element)
  /-- Raised by the fetch from an instruction address with no word in `rom` (20_memory.md R52). Safe: the hardware
  executes whatever its instruction memory holds there. -/
  | fetchUnloaded (p : Addr)
deriving DecidableEq, Repr

/-- The model's refusals. -/
inductive Refusal where
  /-- Raised by `exec` alone, for an instruction that has no meaning yet; no arm of it answers so. Safe. -/
  | notModelled (mnemonic : String)
  /-- Raised by `Netlist.compose` for a netlist with feedback through no state element (40_primitives.md R132,
  60_exceptions.md R376); no instruction raises it. Safe: the spec gives such a netlist no value. -/
  | combinationalCycle
deriving DecidableEq, Repr

/-- An event handed to the host by an access to the platform region (20_memory.md R57). -/
inductive HostEvent where
  | read (k : Addr)
  | write (k : Addr) (v : Word)
deriving DecidableEq, Repr

/-- Which of A, D and PC hold no value, the spec's `⊥` (10_state.md R21). The value kept beside a set mark is 0, the
value R235 computes with where an unneeded `⊥` is read (log entry 3). -/
structure Unset where
  a : Bool
  d : Bool
  pc : Bool
deriving DecidableEq, Repr

/-- A sparse word memory: pairs of a word address and the 16-bit word it holds (20_memory.md R64: the smallest
addressable unit of both memories is the 16-bit word; log entry 4). -/
abbrev Memory := List (Nat × Word)

/-- The state of the machine. `a`, `d`, `pc`, `unset` and `mem` are the architectural state (10_state.md R20); `rom` and
`params` are fixed for a run (00_scope.md R8); the last three fields are the host's side of 60_exceptions.md R384. -/
structure State where
  /-- Register A (R22). -/
  a : Word
  /-- Register D (R23). -/
  d : Word
  /-- The 15-bit program counter (R25 to R27). -/
  pc : Addr
  /-- The marks `⊥` of A, D and PC (R21). -/
  unset : Unset
  /-- The data-memory cells (20_memory.md R54). -/
  mem : Memory
  /-- The instruction memory (20_memory.md R51). -/
  rom : Memory
  /-- The parameters of the built machine (00_scope.md R8). -/
  params : Params
  /-- The values of the input `reset` in this tick and the coming ones; past its end `reset` is 0 (log entry 5). -/
  resetIn : List Bool
  /-- How many platform reads have been answered (log entry 6). -/
  draws : Nat
  /-- The platform accesses made so far, newest first (log entry 7). -/
  events : List HostEvent
deriving DecidableEq, Repr

/-- The launch state of 70_reset_and_hazards.md R405. -/
def State.launch (p : Params) (rom : Memory) : State :=
  { a := 0#16
    d := 0#16
    pc := 0#15
    unset := ⟨p.initPolicy == .undefined, p.initPolicy == .undefined, false⟩
    mem := []
    rom := rom
    params := p
    resetIn := []
    draws := 0
    events := [] }

/-- The power-on state of 70_reset_and_hazards.md R403: as the launch state, with no value in the PC either under
`Undefined`. -/
def State.powerOn (p : Params) (rom : Memory) : State :=
  { State.launch p rom with
    unset := ⟨p.initPolicy == .undefined, p.initPolicy == .undefined, p.initPolicy == .undefined⟩ }

/-- The machine right after reset with no program loaded: the launch state under the defaults of R8, but for
`INIT_POLICY`, which is `Zero`, so that every element holds a value (log entry 1). -/
def State.reset : State := State.launch { Params.default with initPolicy := .zero } []

end Sys2Proof.Machine
end

