-- ==== Sys2Proof/Machine/Ops.lean ====
section
/-! DEFINITION. The named operations over memory, registers and the host's lines (spec 20_memory.md R50 to R57;
43_cpu_cycle.md R222 to R233). The core has no exception to take and none to return from (60_exceptions.md R370, R373),
so there is no operation for either. -/

namespace Sys2Proof.Machine

/-! ### Word memories -/

/-- The word a memory lists at `k`. -/
def Memory.lookup : Memory → Nat → Option Word
  | [], _ => none
  | (n, v) :: m, k => if n = k then some v else Memory.lookup m k

/-- List `v` at `k`, at its place in the order of addresses. -/
def Memory.insert : Memory → Nat → Word → Memory
  | [], k, v => [(k, v)]
  | (n, u) :: m, k, v =>
    if k < n then (k, v) :: (n, u) :: m
    else if k = n then (k, v) :: m
    else (n, u) :: Memory.insert m k v

/-- List nothing at `k`. -/
def Memory.erase : Memory → Nat → Memory
  | [], _ => []
  | (n, u) :: m, k => if n = k then Memory.erase m k else (n, u) :: Memory.erase m k

/-- What a data address that is not listed reads as: the initial value of a cell (10_state.md R33), `⊥` under
`Undefined`, 0 under `Zero`. -/
def unlisted : InitPolicy → Option Word
  | .undefined => none
  | .zero => some 0#16

/-- Set the cell `k` to `v` in canonical form: no entry equal to what an unlisted address reads as. -/
def Memory.store (ip : InitPolicy) (m : Memory) (k : Nat) (v : Word) : Memory :=
  if unlisted ip = some v then Memory.erase m k else Memory.insert m k v

/-- Addresses strictly rising, every one above `lo` where given. -/
def Memory.risingFrom : Option Nat → Memory → Bool
  | _, [] => true
  | none, (n, _) :: m => Memory.risingFrom (some n) m
  | some lo, (n, _) :: m => decide (lo < n) && Memory.risingFrom (some n) m

/-- The canonical form of the data memory: addresses strictly rising, all backed, no entry equal to `unlisted`. -/
def Memory.wf (p : Params) (m : Memory) : Bool :=
  Memory.risingFrom none m && m.all fun c => decide (c.1 < p.dmemWords.count) && unlisted p.initPolicy != some c.2

/-- The canonical form of the instruction memory: addresses strictly rising, all of 15 bits (20_memory.md R51). -/
def Memory.romWf (m : Memory) : Bool :=
  Memory.risingFrom none m && m.all fun c => decide (c.1 < 2 ^ 15)

/-! ### Data memory as the CPU sees it -/

/-- `addressM = A[14:0]`, the current A (20_memory.md R53; 43_cpu_cycle.md R226). -/
def State.addressM (s : State) : Addr := s.a.setWidth 15

/-- The address is backed by the core's RAM (20_memory.md R54). -/
def State.backed (s : State) (k : Addr) : Bool := decide (k.toNat < s.params.dmemWords.count)

/-- The value of a backed cell, `none` for `⊥` (20_memory.md R55). -/
def State.cell (s : State) (k : Addr) : Option Word :=
  match Memory.lookup s.mem k.toNat with
  | some v => some v
  | none => unlisted s.params.initPolicy

/-- `MemRead(addressM, 1)`: the addressed cell, or the host's next answer for the platform region (20_memory.md R55, R57). -/
def State.dataWord (s : State) : Option Word :=
  if s.backed s.addressM then s.cell s.addressM else some (Config.platformRead s.draws)

/-- The trace a read of M leaves: none for a backed cell (20_memory.md R67), an event and one answer used up for the
platform region (R57). -/
def State.readM (s : State) : State :=
  if s.backed s.addressM then s
  else { s with draws := s.draws + 1, events := .read s.addressM :: s.events }

/-- `MemWrite(addressM, 1, v)`: a cell, or an event that changes no core state (20_memory.md R56, R57). -/
def State.writeM (s : State) (v : Word) : State :=
  if s.backed s.addressM then { s with mem := Memory.store s.params.initPolicy s.mem s.addressM.toNat v }
  else { s with events := .write s.addressM v :: s.events }

/-! ### Fetch, reset and the program counter -/

/-- `Fetch(pc)`: the word the instruction memory holds at the PC (20_memory.md R52; 43_cpu_cycle.md R222, R235). -/
def fetch (s : State) : Except Fault Word :=
  if s.unset.pc then .error (.readUninit .pc)
  else match Memory.lookup s.rom s.pc.toNat with
    | some w => .ok w
    | none => .error (.fetchUnloaded s.pc)

/-- The value of the input `reset` in this tick (43_cpu_cycle.md R220). -/
def State.resetNow (s : State) : Bool := s.resetIn.headD false

/-- The PC's next value: reset, else a taken jump to the current A, else the next address modulo 2^15 (43_cpu_cycle.md
R232; 60_exceptions.md R374). -/
def nextPc (s : State) (taken : Bool) : Addr :=
  if s.resetNow then 0#15 else if taken then s.addressM else s.pc + 1#15

/-- The end of a tick: the PC takes its next value and the tick's `reset` is used up. -/
def State.advance (s : State) (taken : Bool) : State :=
  { s with pc := nextPc s taken, resetIn := s.resetIn.tail }

/-- Load A; after it A holds a value (10_state.md R22). -/
def State.loadA (s : State) (v : Word) : State := { s with a := v, unset := { s.unset with a := false } }

/-- Load D; after it D holds a value (10_state.md R23). -/
def State.loadD (s : State) (v : Word) : State := { s with d := v, unset := { s.unset with d := false } }

/-- The destinations and the jump of a C-instruction with result `out` (46_c_dest_jump.md R310, R320). The memory write
and the jump target use the A of the start of the tick (R330): A is loaded last. -/
def commit (d : Dest) (j : Jump) (out : Word) (s : State) : State :=
  let s := if d.toM then s.writeM out else s
  let s := s.advance (jumpTaken j out)
  let s := if d.toD then s.loadD out else s
  if d.toA then s.loadA out else s

end Sys2Proof.Machine
end

