-- ==== Sys2Proof/Machine/Operands.lean ====
section
/-! DEFINITION. The operands of a C-instruction, and the tick of either format (spec 43_cpu_cycle.md R224, R235 to R237;
44_a_instruction.md R260; 45_c_compute.md R270). -/

namespace Sys2Proof.Machine

/-- The instruction reads the memory word M: `y` is needed and `a = 1` (R236; an unneeded M is not read, R299). -/
def readsM (p : Params) (f : CFields) : Bool := f.a && needsY p f

/-- The `x` operand: D (R224, D3). -/
def xOperand (s : State) : Word := s.d

/-- The `y` operand: A when `a = 0`, the memory word M when `a = 1` and it is needed, else 0 (R224, R235). -/
def yOperand (f : CFields) (s : State) : Word :=
  if f.a then (if needsY s.params f then s.dataWord.getD 0#16 else 0#16) else s.a

/-- The result of a C-instruction (R270). -/
def resultC (f : CFields) (s : State) : Word := (functionUnit s.params f (xOperand s) (yOperand f s)).out

/-- A is needed as the write address, or as the target of a taken jump that `reset` does not override (R235: `PC' = (reset =
1) ? 0 : (jump = 1) ? need(true, s.A, A)[14:0] …`, R236; 70_reset_and_hazards.md R401; log entry 18). -/
def needsTarget (d : Dest) (j : Jump) (out : Word) (s : State) : Bool :=
  d.toM || (jumpTaken j out && !s.resetNow)

/-- The model fault of a C-instruction, in the order PC, D, A, M of R237: a needed operand, a write address or the target of a
jump that is taken holds no value (R235, R236). -/
def faultC (f : CFields) (s : State) : Option Fault :=
  if s.unset.pc then some (.readUninit .pc)
  else if needsX s.params f && s.unset.d then some (.readUninit .d)
  else if needsY s.params f && s.unset.a then some (.readUninit .a)
  else if readsM s.params f && s.dataWord.isNone then some (.readUninit .m)
  else if needsTarget f.d f.j (resultC f s) s && s.unset.a then some (.readUninit .a)
  else none

/-- The trace of a C-instruction's read of M, if it makes one. -/
def traceC (f : CFields) (s : State) : State := if readsM s.params f then s.readM else s

/-- The tick of a C-instruction (R235): every value is read at the start of the tick, then all are committed together. -/
def execC (f : CFields) (s : State) : Host.Outcome State Fault Refusal :=
  match faultC f s with
  | some r => .fault r
  | none => .next (commit f.d f.j (resultC f s) (traceC f s))

/-- The tick of an A-instruction (R235, R260): A takes the literal; no memory access, no jump, D unchanged. -/
def execLiteral (v : BitVec 15) (s : State) : Host.Outcome State Fault Refusal :=
  if s.unset.pc then .fault (.readUninit .pc)
  else .next ((s.advance false).loadA (v.setWidth 16))

end Sys2Proof.Machine
end

