-- ==== Sys2Proof/Machine/Destinations.lean ====
section
/-! DEFINITION. The meanings of the destination rows (spec 46_c_dest_jump.md R310 to R318): a C-instruction seen by the value of
its field `d`, with every other field as an operand (log entry 9). -/

namespace Sys2Proof.Machine

/-- `dest__none` (R311): any computation and jump with `d = 000`. -/
def execDestNone (e : BitVec 2) (a : Bool) (c : BitVec 6) (j : Jump) (s : State) : Host.Outcome State Fault Refusal :=
  execC ⟨e, a, c, ⟨false, false, false⟩, j⟩ s

/-- `dest_M` (R312): any computation and jump with `d = 001`. -/
def execDestM (e : BitVec 2) (a : Bool) (c : BitVec 6) (j : Jump) (s : State) : Host.Outcome State Fault Refusal :=
  execC ⟨e, a, c, ⟨false, false, true⟩, j⟩ s

/-- `dest_D` (R313): any computation and jump with `d = 010`. -/
def execDestD (e : BitVec 2) (a : Bool) (c : BitVec 6) (j : Jump) (s : State) : Host.Outcome State Fault Refusal :=
  execC ⟨e, a, c, ⟨false, true, false⟩, j⟩ s

/-- `dest_MD` (R314): any computation and jump with `d = 011`. -/
def execDestMD (e : BitVec 2) (a : Bool) (c : BitVec 6) (j : Jump) (s : State) : Host.Outcome State Fault Refusal :=
  execC ⟨e, a, c, ⟨false, true, true⟩, j⟩ s

/-- `dest_A` (R315): any computation and jump with `d = 100`. -/
def execDestA (e : BitVec 2) (a : Bool) (c : BitVec 6) (j : Jump) (s : State) : Host.Outcome State Fault Refusal :=
  execC ⟨e, a, c, ⟨true, false, false⟩, j⟩ s

/-- `dest_AM` (R316): any computation and jump with `d = 101`. -/
def execDestAM (e : BitVec 2) (a : Bool) (c : BitVec 6) (j : Jump) (s : State) : Host.Outcome State Fault Refusal :=
  execC ⟨e, a, c, ⟨true, false, true⟩, j⟩ s

/-- `dest_AD` (R317): any computation and jump with `d = 110`. -/
def execDestAD (e : BitVec 2) (a : Bool) (c : BitVec 6) (j : Jump) (s : State) : Host.Outcome State Fault Refusal :=
  execC ⟨e, a, c, ⟨true, true, false⟩, j⟩ s

/-- `dest_AMD` (R318): any computation and jump with `d = 111`. -/
def execDestAMD (e : BitVec 2) (a : Bool) (c : BitVec 6) (j : Jump) (s : State) : Host.Outcome State Fault Refusal :=
  execC ⟨e, a, c, ⟨true, true, true⟩, j⟩ s

end Sys2Proof.Machine
end

