-- ==== Sys2Proof/Machine/Extended.lean ====
section
/-! DEFINITION. The meanings of the Extended variant's rows (spec 47_extended.md R340 to R351). Each is the tick of 43_cpu_cycle.md
R235 on the row's fields; on a machine whose parameters do not have the row, the same word is another instruction and the
meaning is that instruction's (log entry 10). -/

namespace Sys2Proof.Machine

/-- `D*A` (R341): `out = D * A`. -/
def execMulDA (ign : BitVec 6) (d : Dest) (j : Jump) (s : State) : Host.Outcome State Fault Refusal :=
  execC ⟨0b00#2, false, ign, d, j⟩ s

/-- `D*M` (R342): `out = D * M`. -/
def execMulDM (ign : BitVec 6) (d : Dest) (j : Jump) (s : State) : Host.Outcome State Fault Refusal :=
  execC ⟨0b00#2, true, ign, d, j⟩ s

/-- `A<<` (R343): `out` is A shifted left by one. -/
def execShlA (ign : BitVec 4) (d : Dest) (j : Jump) (s : State) : Host.Outcome State Fault Refusal :=
  execC ⟨0b01#2, false, 0b10#2 ++ ign, d, j⟩ s

/-- `D<<` (R344): `out` is D shifted left by one. -/
def execShlD (a : Bool) (ign : BitVec 4) (d : Dest) (j : Jump) (s : State) : Host.Outcome State Fault Refusal :=
  execC ⟨0b01#2, a, 0b11#2 ++ ign, d, j⟩ s

/-- `M<<` (R345): `out` is M shifted left by one. -/
def execShlM (ign : BitVec 4) (d : Dest) (j : Jump) (s : State) : Host.Outcome State Fault Refusal :=
  execC ⟨0b01#2, true, 0b10#2 ++ ign, d, j⟩ s

/-- `A>>` (R346): `out` is A shifted right by one. -/
def execShrA (ign : BitVec 4) (d : Dest) (j : Jump) (s : State) : Host.Outcome State Fault Refusal :=
  execC ⟨0b01#2, false, 0b00#2 ++ ign, d, j⟩ s

/-- `D>>` (R347): `out` is D shifted right by one. -/
def execShrD (a : Bool) (ign : BitVec 4) (d : Dest) (j : Jump) (s : State) : Host.Outcome State Fault Refusal :=
  execC ⟨0b01#2, a, 0b01#2 ++ ign, d, j⟩ s

/-- `M>>` (R348): `out` is M shifted right by one. -/
def execShrM (ign : BitVec 4) (d : Dest) (j : Jump) (s : State) : Host.Outcome State Fault Refusal :=
  execC ⟨0b01#2, true, 0b00#2 ++ ign, d, j⟩ s

/-- `D_A__alias` (R349): `out = D * A`. Selector A = 10, the alias of 00. -/
def execMulDAAlias (ign : BitVec 6) (d : Dest) (j : Jump) (s : State) : Host.Outcome State Fault Refusal :=
  execC ⟨0b10#2, false, ign, d, j⟩ s

/-- `D_M__alias` (R349): `out = D * M`. Selector A = 10, the alias of 00. -/
def execMulDMAlias (ign : BitVec 6) (d : Dest) (j : Jump) (s : State) : Host.Outcome State Fault Refusal :=
  execC ⟨0b10#2, true, ign, d, j⟩ s

/-- `A>>` (R351, R346): `out` is A shifted right by one, encoded for `EXT_SELB_LO = 5`. -/
def execShrALo5 (ign : BitVec 5) (d : Dest) (j : Jump) (s : State) : Host.Outcome State Fault Refusal :=
  execC ⟨0b01#2, false, 0b0#1 ++ ign, d, j⟩ s

/-- `D>>` (R351, R347): `out` is D shifted right by one, encoded for `EXT_SELB_LO = 5`. -/
def execShrDLo5 (ign : BitVec 5) (d : Dest) (j : Jump) (s : State) : Host.Outcome State Fault Refusal :=
  execC ⟨0b01#2, false, 0b1#1 ++ ign, d, j⟩ s

/-- `M<<` (R351, R345): `out` is M shifted left by one, encoded for `EXT_SELB_LO = 5`. -/
def execShlMLo5 (ign : BitVec 5) (d : Dest) (j : Jump) (s : State) : Host.Outcome State Fault Refusal :=
  execC ⟨0b01#2, true, 0b0#1 ++ ign, d, j⟩ s

/-- `D<<` (R351, R344): `out` is D shifted left by one, encoded for `EXT_SELB_LO = 5`. -/
def execShlDLo5 (ign : BitVec 5) (d : Dest) (j : Jump) (s : State) : Host.Outcome State Fault Refusal :=
  execC ⟨0b01#2, true, 0b1#1 ++ ign, d, j⟩ s

/-- `standard_path` (R350): `out = ALU(D, A or M, c)` for any `a` and `c`, selector A = 11. -/
def execStandardPath (a : Bool) (c : BitVec 6) (d : Dest) (j : Jump) (s : State) : Host.Outcome State Fault Refusal :=
  execC ⟨0b11#2, a, c, d, j⟩ s

end Sys2Proof.Machine
end

