-- ==== Sys2Proof/Machine/Jumps.lean ====
section
/-! DEFINITION. The meanings of the jump rows (spec 46_c_dest_jump.md R320 to R328): a C-instruction seen by the value of its field `j`,
with every other field as an operand (log entry 9). -/

namespace Sys2Proof.Machine

/-- `jump__none` (R321): any computation and destination with `j = 000`. -/
def execJumpNone (e : BitVec 2) (a : Bool) (c : BitVec 6) (d : Dest) (s : State) : Host.Outcome State Fault Refusal :=
  execC ⟨e, a, c, d, ⟨false, false, false⟩⟩ s

/-- `jump_JGT` (R322): any computation and destination with `j = 001`. -/
def execJumpJGT (e : BitVec 2) (a : Bool) (c : BitVec 6) (d : Dest) (s : State) : Host.Outcome State Fault Refusal :=
  execC ⟨e, a, c, d, ⟨false, false, true⟩⟩ s

/-- `jump_JEQ` (R323): any computation and destination with `j = 010`. -/
def execJumpJEQ (e : BitVec 2) (a : Bool) (c : BitVec 6) (d : Dest) (s : State) : Host.Outcome State Fault Refusal :=
  execC ⟨e, a, c, d, ⟨false, true, false⟩⟩ s

/-- `jump_JGE` (R324): any computation and destination with `j = 011`. -/
def execJumpJGE (e : BitVec 2) (a : Bool) (c : BitVec 6) (d : Dest) (s : State) : Host.Outcome State Fault Refusal :=
  execC ⟨e, a, c, d, ⟨false, true, true⟩⟩ s

/-- `jump_JLT` (R325): any computation and destination with `j = 100`. -/
def execJumpJLT (e : BitVec 2) (a : Bool) (c : BitVec 6) (d : Dest) (s : State) : Host.Outcome State Fault Refusal :=
  execC ⟨e, a, c, d, ⟨true, false, false⟩⟩ s

/-- `jump_JNE` (R326): any computation and destination with `j = 101`. -/
def execJumpJNE (e : BitVec 2) (a : Bool) (c : BitVec 6) (d : Dest) (s : State) : Host.Outcome State Fault Refusal :=
  execC ⟨e, a, c, d, ⟨true, false, true⟩⟩ s

/-- `jump_JLE` (R327): any computation and destination with `j = 110`. -/
def execJumpJLE (e : BitVec 2) (a : Bool) (c : BitVec 6) (d : Dest) (s : State) : Host.Outcome State Fault Refusal :=
  execC ⟨e, a, c, d, ⟨true, true, false⟩⟩ s

/-- `jump_JMP` (R328): any computation and destination with `j = 111`. -/
def execJumpJMP (e : BitVec 2) (a : Bool) (c : BitVec 6) (d : Dest) (s : State) : Host.Outcome State Fault Refusal :=
  execC ⟨e, a, c, d, ⟨true, true, true⟩⟩ s

end Sys2Proof.Machine
end

