-- ==== Sys2Proof/Machine/Literal.lean ====
section
/-! DEFINITION. The meaning of the A-instruction (spec 44_a_instruction.md R260). -/

namespace Sys2Proof.Machine

/-- `@value` (R260): load the 15-bit literal, zero-extended, into A. -/
def execAtValue (v : BitVec 15) (s : State) : Host.Outcome State Fault Refusal :=
  execLiteral v s

end Sys2Proof.Machine
end

