-- ==== Sys2Proof/Machine/Named.lean ====
section
/-! DEFINITION. The meanings of the 28 named computations (spec 45_c_compute.md R271 to R298). Each meaning is the tick of
43_cpu_cycle.md R235 on the row's fields (`⟨e, a, c, d, j⟩`, 30_encoding.md R94); its result is the ALU's on the Standard
variant, and on the Extended variant when `e = 11` (45_c_compute.md R270, 47_extended.md R350). -/

namespace Sys2Proof.Machine

/-- `0` (R271): `out = 0`. -/
def execZero (e : BitVec 2) (d : Dest) (j : Jump) (s : State) : Host.Outcome State Fault Refusal :=
  execC ⟨e, false, 0b101010#6, d, j⟩ s

/-- `1` (R272): `out = 1`. -/
def execOne (e : BitVec 2) (d : Dest) (j : Jump) (s : State) : Host.Outcome State Fault Refusal :=
  execC ⟨e, false, 0b111111#6, d, j⟩ s

/-- `-1` (R273): `out = -1`. -/
def execNegOne (e : BitVec 2) (d : Dest) (j : Jump) (s : State) : Host.Outcome State Fault Refusal :=
  execC ⟨e, false, 0b111010#6, d, j⟩ s

/-- `D` (R274): `out = D`. -/
def execCopyD (e : BitVec 2) (d : Dest) (j : Jump) (s : State) : Host.Outcome State Fault Refusal :=
  execC ⟨e, false, 0b001100#6, d, j⟩ s

/-- `A` (R275): `out = A`. -/
def execCopyA (e : BitVec 2) (d : Dest) (j : Jump) (s : State) : Host.Outcome State Fault Refusal :=
  execC ⟨e, false, 0b110000#6, d, j⟩ s

/-- `!D` (R276): `out = !D`. -/
def execNotD (e : BitVec 2) (d : Dest) (j : Jump) (s : State) : Host.Outcome State Fault Refusal :=
  execC ⟨e, false, 0b001101#6, d, j⟩ s

/-- `!A` (R277): `out = !A`. -/
def execNotA (e : BitVec 2) (d : Dest) (j : Jump) (s : State) : Host.Outcome State Fault Refusal :=
  execC ⟨e, false, 0b110001#6, d, j⟩ s

/-- `-D` (R278): `out = -D`. -/
def execNegD (e : BitVec 2) (d : Dest) (j : Jump) (s : State) : Host.Outcome State Fault Refusal :=
  execC ⟨e, false, 0b001111#6, d, j⟩ s

/-- `-A` (R279): `out = -A`. -/
def execNegA (e : BitVec 2) (d : Dest) (j : Jump) (s : State) : Host.Outcome State Fault Refusal :=
  execC ⟨e, false, 0b110011#6, d, j⟩ s

/-- `D+1` (R280): `out = D+1`. -/
def execIncD (e : BitVec 2) (d : Dest) (j : Jump) (s : State) : Host.Outcome State Fault Refusal :=
  execC ⟨e, false, 0b011111#6, d, j⟩ s

/-- `A+1` (R281): `out = A+1`. -/
def execIncA (e : BitVec 2) (d : Dest) (j : Jump) (s : State) : Host.Outcome State Fault Refusal :=
  execC ⟨e, false, 0b110111#6, d, j⟩ s

/-- `D-1` (R282): `out = D-1`. -/
def execDecD (e : BitVec 2) (d : Dest) (j : Jump) (s : State) : Host.Outcome State Fault Refusal :=
  execC ⟨e, false, 0b001110#6, d, j⟩ s

/-- `A-1` (R283): `out = A-1`. -/
def execDecA (e : BitVec 2) (d : Dest) (j : Jump) (s : State) : Host.Outcome State Fault Refusal :=
  execC ⟨e, false, 0b110010#6, d, j⟩ s

/-- `D+A` (R284): `out = D+A`. -/
def execAddDA (e : BitVec 2) (d : Dest) (j : Jump) (s : State) : Host.Outcome State Fault Refusal :=
  execC ⟨e, false, 0b000010#6, d, j⟩ s

/-- `D-A` (R285): `out = D-A`. -/
def execSubDA (e : BitVec 2) (d : Dest) (j : Jump) (s : State) : Host.Outcome State Fault Refusal :=
  execC ⟨e, false, 0b010011#6, d, j⟩ s

/-- `A-D` (R286): `out = A-D`. -/
def execSubAD (e : BitVec 2) (d : Dest) (j : Jump) (s : State) : Host.Outcome State Fault Refusal :=
  execC ⟨e, false, 0b000111#6, d, j⟩ s

/-- `D&A` (R287): `out = D&A`. -/
def execAndDA (e : BitVec 2) (d : Dest) (j : Jump) (s : State) : Host.Outcome State Fault Refusal :=
  execC ⟨e, false, 0b000000#6, d, j⟩ s

/-- `D|A` (R288): `out = D|A`. -/
def execOrDA (e : BitVec 2) (d : Dest) (j : Jump) (s : State) : Host.Outcome State Fault Refusal :=
  execC ⟨e, false, 0b010101#6, d, j⟩ s

/-- `M` (R289): `out = M`. -/
def execCopyM (e : BitVec 2) (d : Dest) (j : Jump) (s : State) : Host.Outcome State Fault Refusal :=
  execC ⟨e, true, 0b110000#6, d, j⟩ s

/-- `!M` (R290): `out = !M`. -/
def execNotM (e : BitVec 2) (d : Dest) (j : Jump) (s : State) : Host.Outcome State Fault Refusal :=
  execC ⟨e, true, 0b110001#6, d, j⟩ s

/-- `-M` (R291): `out = -M`. -/
def execNegM (e : BitVec 2) (d : Dest) (j : Jump) (s : State) : Host.Outcome State Fault Refusal :=
  execC ⟨e, true, 0b110011#6, d, j⟩ s

/-- `M+1` (R292): `out = M+1`. -/
def execIncM (e : BitVec 2) (d : Dest) (j : Jump) (s : State) : Host.Outcome State Fault Refusal :=
  execC ⟨e, true, 0b110111#6, d, j⟩ s

/-- `M-1` (R293): `out = M-1`. -/
def execDecM (e : BitVec 2) (d : Dest) (j : Jump) (s : State) : Host.Outcome State Fault Refusal :=
  execC ⟨e, true, 0b110010#6, d, j⟩ s

/-- `D+M` (R294): `out = D+M`. -/
def execAddDM (e : BitVec 2) (d : Dest) (j : Jump) (s : State) : Host.Outcome State Fault Refusal :=
  execC ⟨e, true, 0b000010#6, d, j⟩ s

/-- `D-M` (R295): `out = D-M`. -/
def execSubDM (e : BitVec 2) (d : Dest) (j : Jump) (s : State) : Host.Outcome State Fault Refusal :=
  execC ⟨e, true, 0b010011#6, d, j⟩ s

/-- `M-D` (R296): `out = M-D`. -/
def execSubMD (e : BitVec 2) (d : Dest) (j : Jump) (s : State) : Host.Outcome State Fault Refusal :=
  execC ⟨e, true, 0b000111#6, d, j⟩ s

/-- `D&M` (R297): `out = D&M`. -/
def execAndDM (e : BitVec 2) (d : Dest) (j : Jump) (s : State) : Host.Outcome State Fault Refusal :=
  execC ⟨e, true, 0b000000#6, d, j⟩ s

/-- `D|M` (R298): `out = D|M`. -/
def execOrDM (e : BitVec 2) (d : Dest) (j : Jump) (s : State) : Host.Outcome State Fault Refusal :=
  execC ⟨e, true, 0b010101#6, d, j⟩ s

end Sys2Proof.Machine
end

