-- ==== Sys2Proof/Machine/Unnamed.lean ====
section
/-! DEFINITION. The meanings of the 100 unnamed ALU codes (spec 45_c_compute.md R299; closed forms of 42_alu.md R198). Each meaning is the tick of
43_cpu_cycle.md R235 on the row's fields (`⟨e, a, c, d, j⟩`, 30_encoding.md R94); its result is the ALU's on the Standard
variant, and on the Extended variant when `e = 11` (45_c_compute.md R270, 47_extended.md R350). -/

namespace Sys2Proof.Machine

/-- `alu[c=000001,a=0]` (R299): `out = !(D&A)`. -/
def execAluA000001 (e : BitVec 2) (d : Dest) (j : Jump) (s : State) : Host.Outcome State Fault Refusal :=
  execC ⟨e, false, 0b000001#6, d, j⟩ s

/-- `alu[c=000011,a=0]` (R299): `out = -D-A-1`. -/
def execAluA000011 (e : BitVec 2) (d : Dest) (j : Jump) (s : State) : Host.Outcome State Fault Refusal :=
  execC ⟨e, false, 0b000011#6, d, j⟩ s

/-- `alu[c=000100,a=0]` (R299): `out = D&!A`. -/
def execAluA000100 (e : BitVec 2) (d : Dest) (j : Jump) (s : State) : Host.Outcome State Fault Refusal :=
  execC ⟨e, false, 0b000100#6, d, j⟩ s

/-- `alu[c=000101,a=0]` (R299): `out = !D|A`. -/
def execAluA000101 (e : BitVec 2) (d : Dest) (j : Jump) (s : State) : Host.Outcome State Fault Refusal :=
  execC ⟨e, false, 0b000101#6, d, j⟩ s

/-- `alu[c=000110,a=0]` (R299): `out = D-A-1`. -/
def execAluA000110 (e : BitVec 2) (d : Dest) (j : Jump) (s : State) : Host.Outcome State Fault Refusal :=
  execC ⟨e, false, 0b000110#6, d, j⟩ s

/-- `alu[c=001000,a=0]` (R299): `out = 0`. -/
def execAluA001000 (e : BitVec 2) (d : Dest) (j : Jump) (s : State) : Host.Outcome State Fault Refusal :=
  execC ⟨e, false, 0b001000#6, d, j⟩ s

/-- `alu[c=001001,a=0]` (R299): `out = -1`. -/
def execAluA001001 (e : BitVec 2) (d : Dest) (j : Jump) (s : State) : Host.Outcome State Fault Refusal :=
  execC ⟨e, false, 0b001001#6, d, j⟩ s

/-- `alu[c=001010,a=0]` (R299): `out = D`. -/
def execAluA001010 (e : BitVec 2) (d : Dest) (j : Jump) (s : State) : Host.Outcome State Fault Refusal :=
  execC ⟨e, false, 0b001010#6, d, j⟩ s

/-- `alu[c=001011,a=0]` (R299): `out = !D`. -/
def execAluA001011 (e : BitVec 2) (d : Dest) (j : Jump) (s : State) : Host.Outcome State Fault Refusal :=
  execC ⟨e, false, 0b001011#6, d, j⟩ s

/-- `alu[c=010000,a=0]` (R299): `out = !D&A`. -/
def execAluA010000 (e : BitVec 2) (d : Dest) (j : Jump) (s : State) : Host.Outcome State Fault Refusal :=
  execC ⟨e, false, 0b010000#6, d, j⟩ s

/-- `alu[c=010001,a=0]` (R299): `out = D|!A`. -/
def execAluA010001 (e : BitVec 2) (d : Dest) (j : Jump) (s : State) : Host.Outcome State Fault Refusal :=
  execC ⟨e, false, 0b010001#6, d, j⟩ s

/-- `alu[c=010010,a=0]` (R299): `out = A-D-1`. -/
def execAluA010010 (e : BitVec 2) (d : Dest) (j : Jump) (s : State) : Host.Outcome State Fault Refusal :=
  execC ⟨e, false, 0b010010#6, d, j⟩ s

/-- `alu[c=010100,a=0]` (R299): `out = !(D|A)`. -/
def execAluA010100 (e : BitVec 2) (d : Dest) (j : Jump) (s : State) : Host.Outcome State Fault Refusal :=
  execC ⟨e, false, 0b010100#6, d, j⟩ s

/-- `alu[c=010110,a=0]` (R299): `out = -D-A-2`. -/
def execAluA010110 (e : BitVec 2) (d : Dest) (j : Jump) (s : State) : Host.Outcome State Fault Refusal :=
  execC ⟨e, false, 0b010110#6, d, j⟩ s

/-- `alu[c=010111,a=0]` (R299): `out = D+A+1`. -/
def execAluA010111 (e : BitVec 2) (d : Dest) (j : Jump) (s : State) : Host.Outcome State Fault Refusal :=
  execC ⟨e, false, 0b010111#6, d, j⟩ s

/-- `alu[c=011000,a=0]` (R299): `out = 0`. -/
def execAluA011000 (e : BitVec 2) (d : Dest) (j : Jump) (s : State) : Host.Outcome State Fault Refusal :=
  execC ⟨e, false, 0b011000#6, d, j⟩ s

/-- `alu[c=011001,a=0]` (R299): `out = -1`. -/
def execAluA011001 (e : BitVec 2) (d : Dest) (j : Jump) (s : State) : Host.Outcome State Fault Refusal :=
  execC ⟨e, false, 0b011001#6, d, j⟩ s

/-- `alu[c=011010,a=0]` (R299): `out = !D`. -/
def execAluA011010 (e : BitVec 2) (d : Dest) (j : Jump) (s : State) : Host.Outcome State Fault Refusal :=
  execC ⟨e, false, 0b011010#6, d, j⟩ s

/-- `alu[c=011011,a=0]` (R299): `out = D`. -/
def execAluA011011 (e : BitVec 2) (d : Dest) (j : Jump) (s : State) : Host.Outcome State Fault Refusal :=
  execC ⟨e, false, 0b011011#6, d, j⟩ s

/-- `alu[c=011100,a=0]` (R299): `out = !D`. -/
def execAluA011100 (e : BitVec 2) (d : Dest) (j : Jump) (s : State) : Host.Outcome State Fault Refusal :=
  execC ⟨e, false, 0b011100#6, d, j⟩ s

/-- `alu[c=011101,a=0]` (R299): `out = D`. -/
def execAluA011101 (e : BitVec 2) (d : Dest) (j : Jump) (s : State) : Host.Outcome State Fault Refusal :=
  execC ⟨e, false, 0b011101#6, d, j⟩ s

/-- `alu[c=011110,a=0]` (R299): `out = -D-2`. -/
def execAluA011110 (e : BitVec 2) (d : Dest) (j : Jump) (s : State) : Host.Outcome State Fault Refusal :=
  execC ⟨e, false, 0b011110#6, d, j⟩ s

/-- `alu[c=100000,a=0]` (R299): `out = 0`. -/
def execAluA100000 (e : BitVec 2) (d : Dest) (j : Jump) (s : State) : Host.Outcome State Fault Refusal :=
  execC ⟨e, false, 0b100000#6, d, j⟩ s

/-- `alu[c=100001,a=0]` (R299): `out = -1`. -/
def execAluA100001 (e : BitVec 2) (d : Dest) (j : Jump) (s : State) : Host.Outcome State Fault Refusal :=
  execC ⟨e, false, 0b100001#6, d, j⟩ s

/-- `alu[c=100010,a=0]` (R299): `out = A`. -/
def execAluA100010 (e : BitVec 2) (d : Dest) (j : Jump) (s : State) : Host.Outcome State Fault Refusal :=
  execC ⟨e, false, 0b100010#6, d, j⟩ s

/-- `alu[c=100011,a=0]` (R299): `out = !A`. -/
def execAluA100011 (e : BitVec 2) (d : Dest) (j : Jump) (s : State) : Host.Outcome State Fault Refusal :=
  execC ⟨e, false, 0b100011#6, d, j⟩ s

/-- `alu[c=100100,a=0]` (R299): `out = 0`. -/
def execAluA100100 (e : BitVec 2) (d : Dest) (j : Jump) (s : State) : Host.Outcome State Fault Refusal :=
  execC ⟨e, false, 0b100100#6, d, j⟩ s

/-- `alu[c=100101,a=0]` (R299): `out = -1`. -/
def execAluA100101 (e : BitVec 2) (d : Dest) (j : Jump) (s : State) : Host.Outcome State Fault Refusal :=
  execC ⟨e, false, 0b100101#6, d, j⟩ s

/-- `alu[c=100110,a=0]` (R299): `out = !A`. -/
def execAluA100110 (e : BitVec 2) (d : Dest) (j : Jump) (s : State) : Host.Outcome State Fault Refusal :=
  execC ⟨e, false, 0b100110#6, d, j⟩ s

/-- `alu[c=100111,a=0]` (R299): `out = A`. -/
def execAluA100111 (e : BitVec 2) (d : Dest) (j : Jump) (s : State) : Host.Outcome State Fault Refusal :=
  execC ⟨e, false, 0b100111#6, d, j⟩ s

/-- `alu[c=101000,a=0]` (R299): `out = 0`. -/
def execAluA101000 (e : BitVec 2) (d : Dest) (j : Jump) (s : State) : Host.Outcome State Fault Refusal :=
  execC ⟨e, false, 0b101000#6, d, j⟩ s

/-- `alu[c=101001,a=0]` (R299): `out = -1`. -/
def execAluA101001 (e : BitVec 2) (d : Dest) (j : Jump) (s : State) : Host.Outcome State Fault Refusal :=
  execC ⟨e, false, 0b101001#6, d, j⟩ s

/-- `alu[c=101011,a=0]` (R299): `out = -1`. -/
def execAluA101011 (e : BitVec 2) (d : Dest) (j : Jump) (s : State) : Host.Outcome State Fault Refusal :=
  execC ⟨e, false, 0b101011#6, d, j⟩ s

/-- `alu[c=101100,a=0]` (R299): `out = 0`. -/
def execAluA101100 (e : BitVec 2) (d : Dest) (j : Jump) (s : State) : Host.Outcome State Fault Refusal :=
  execC ⟨e, false, 0b101100#6, d, j⟩ s

/-- `alu[c=101101,a=0]` (R299): `out = -1`. -/
def execAluA101101 (e : BitVec 2) (d : Dest) (j : Jump) (s : State) : Host.Outcome State Fault Refusal :=
  execC ⟨e, false, 0b101101#6, d, j⟩ s

/-- `alu[c=101110,a=0]` (R299): `out = -1`. -/
def execAluA101110 (e : BitVec 2) (d : Dest) (j : Jump) (s : State) : Host.Outcome State Fault Refusal :=
  execC ⟨e, false, 0b101110#6, d, j⟩ s

/-- `alu[c=101111,a=0]` (R299): `out = 0`. -/
def execAluA101111 (e : BitVec 2) (d : Dest) (j : Jump) (s : State) : Host.Outcome State Fault Refusal :=
  execC ⟨e, false, 0b101111#6, d, j⟩ s

/-- `alu[c=110100,a=0]` (R299): `out = !A`. -/
def execAluA110100 (e : BitVec 2) (d : Dest) (j : Jump) (s : State) : Host.Outcome State Fault Refusal :=
  execC ⟨e, false, 0b110100#6, d, j⟩ s

/-- `alu[c=110101,a=0]` (R299): `out = A`. -/
def execAluA110101 (e : BitVec 2) (d : Dest) (j : Jump) (s : State) : Host.Outcome State Fault Refusal :=
  execC ⟨e, false, 0b110101#6, d, j⟩ s

/-- `alu[c=110110,a=0]` (R299): `out = -A-2`. -/
def execAluA110110 (e : BitVec 2) (d : Dest) (j : Jump) (s : State) : Host.Outcome State Fault Refusal :=
  execC ⟨e, false, 0b110110#6, d, j⟩ s

/-- `alu[c=111000,a=0]` (R299): `out = 0`. -/
def execAluA111000 (e : BitVec 2) (d : Dest) (j : Jump) (s : State) : Host.Outcome State Fault Refusal :=
  execC ⟨e, false, 0b111000#6, d, j⟩ s

/-- `alu[c=111001,a=0]` (R299): `out = -1`. -/
def execAluA111001 (e : BitVec 2) (d : Dest) (j : Jump) (s : State) : Host.Outcome State Fault Refusal :=
  execC ⟨e, false, 0b111001#6, d, j⟩ s

/-- `alu[c=111011,a=0]` (R299): `out = 0`. -/
def execAluA111011 (e : BitVec 2) (d : Dest) (j : Jump) (s : State) : Host.Outcome State Fault Refusal :=
  execC ⟨e, false, 0b111011#6, d, j⟩ s

/-- `alu[c=111100,a=0]` (R299): `out = -1`. -/
def execAluA111100 (e : BitVec 2) (d : Dest) (j : Jump) (s : State) : Host.Outcome State Fault Refusal :=
  execC ⟨e, false, 0b111100#6, d, j⟩ s

/-- `alu[c=111101,a=0]` (R299): `out = 0`. -/
def execAluA111101 (e : BitVec 2) (d : Dest) (j : Jump) (s : State) : Host.Outcome State Fault Refusal :=
  execC ⟨e, false, 0b111101#6, d, j⟩ s

/-- `alu[c=111110,a=0]` (R299): `out = -2`. -/
def execAluA111110 (e : BitVec 2) (d : Dest) (j : Jump) (s : State) : Host.Outcome State Fault Refusal :=
  execC ⟨e, false, 0b111110#6, d, j⟩ s

/-- `alu[c=000001,a=1]` (R299): `out = !(D&M)`. -/
def execAluM000001 (e : BitVec 2) (d : Dest) (j : Jump) (s : State) : Host.Outcome State Fault Refusal :=
  execC ⟨e, true, 0b000001#6, d, j⟩ s

/-- `alu[c=000011,a=1]` (R299): `out = -D-M-1`. -/
def execAluM000011 (e : BitVec 2) (d : Dest) (j : Jump) (s : State) : Host.Outcome State Fault Refusal :=
  execC ⟨e, true, 0b000011#6, d, j⟩ s

/-- `alu[c=000100,a=1]` (R299): `out = D&!M`. -/
def execAluM000100 (e : BitVec 2) (d : Dest) (j : Jump) (s : State) : Host.Outcome State Fault Refusal :=
  execC ⟨e, true, 0b000100#6, d, j⟩ s

/-- `alu[c=000101,a=1]` (R299): `out = !D|M`. -/
def execAluM000101 (e : BitVec 2) (d : Dest) (j : Jump) (s : State) : Host.Outcome State Fault Refusal :=
  execC ⟨e, true, 0b000101#6, d, j⟩ s

/-- `alu[c=000110,a=1]` (R299): `out = D-M-1`. -/
def execAluM000110 (e : BitVec 2) (d : Dest) (j : Jump) (s : State) : Host.Outcome State Fault Refusal :=
  execC ⟨e, true, 0b000110#6, d, j⟩ s

/-- `alu[c=001000,a=1]` (R299): `out = 0`. -/
def execAluM001000 (e : BitVec 2) (d : Dest) (j : Jump) (s : State) : Host.Outcome State Fault Refusal :=
  execC ⟨e, true, 0b001000#6, d, j⟩ s

/-- `alu[c=001001,a=1]` (R299): `out = -1`. -/
def execAluM001001 (e : BitVec 2) (d : Dest) (j : Jump) (s : State) : Host.Outcome State Fault Refusal :=
  execC ⟨e, true, 0b001001#6, d, j⟩ s

/-- `alu[c=001010,a=1]` (R299): `out = D`. -/
def execAluM001010 (e : BitVec 2) (d : Dest) (j : Jump) (s : State) : Host.Outcome State Fault Refusal :=
  execC ⟨e, true, 0b001010#6, d, j⟩ s

/-- `alu[c=001011,a=1]` (R299): `out = !D`. -/
def execAluM001011 (e : BitVec 2) (d : Dest) (j : Jump) (s : State) : Host.Outcome State Fault Refusal :=
  execC ⟨e, true, 0b001011#6, d, j⟩ s

/-- `alu[c=001100,a=1]` (R299): `out = D`. -/
def execAluM001100 (e : BitVec 2) (d : Dest) (j : Jump) (s : State) : Host.Outcome State Fault Refusal :=
  execC ⟨e, true, 0b001100#6, d, j⟩ s

/-- `alu[c=001101,a=1]` (R299): `out = !D`. -/
def execAluM001101 (e : BitVec 2) (d : Dest) (j : Jump) (s : State) : Host.Outcome State Fault Refusal :=
  execC ⟨e, true, 0b001101#6, d, j⟩ s

/-- `alu[c=001110,a=1]` (R299): `out = D-1`. -/
def execAluM001110 (e : BitVec 2) (d : Dest) (j : Jump) (s : State) : Host.Outcome State Fault Refusal :=
  execC ⟨e, true, 0b001110#6, d, j⟩ s

/-- `alu[c=001111,a=1]` (R299): `out = -D`. -/
def execAluM001111 (e : BitVec 2) (d : Dest) (j : Jump) (s : State) : Host.Outcome State Fault Refusal :=
  execC ⟨e, true, 0b001111#6, d, j⟩ s

/-- `alu[c=010000,a=1]` (R299): `out = !D&M`. -/
def execAluM010000 (e : BitVec 2) (d : Dest) (j : Jump) (s : State) : Host.Outcome State Fault Refusal :=
  execC ⟨e, true, 0b010000#6, d, j⟩ s

/-- `alu[c=010001,a=1]` (R299): `out = D|!M`. -/
def execAluM010001 (e : BitVec 2) (d : Dest) (j : Jump) (s : State) : Host.Outcome State Fault Refusal :=
  execC ⟨e, true, 0b010001#6, d, j⟩ s

/-- `alu[c=010010,a=1]` (R299): `out = M-D-1`. -/
def execAluM010010 (e : BitVec 2) (d : Dest) (j : Jump) (s : State) : Host.Outcome State Fault Refusal :=
  execC ⟨e, true, 0b010010#6, d, j⟩ s

/-- `alu[c=010100,a=1]` (R299): `out = !(D|M)`. -/
def execAluM010100 (e : BitVec 2) (d : Dest) (j : Jump) (s : State) : Host.Outcome State Fault Refusal :=
  execC ⟨e, true, 0b010100#6, d, j⟩ s

/-- `alu[c=010110,a=1]` (R299): `out = -D-M-2`. -/
def execAluM010110 (e : BitVec 2) (d : Dest) (j : Jump) (s : State) : Host.Outcome State Fault Refusal :=
  execC ⟨e, true, 0b010110#6, d, j⟩ s

/-- `alu[c=010111,a=1]` (R299): `out = D+M+1`. -/
def execAluM010111 (e : BitVec 2) (d : Dest) (j : Jump) (s : State) : Host.Outcome State Fault Refusal :=
  execC ⟨e, true, 0b010111#6, d, j⟩ s

/-- `alu[c=011000,a=1]` (R299): `out = 0`. -/
def execAluM011000 (e : BitVec 2) (d : Dest) (j : Jump) (s : State) : Host.Outcome State Fault Refusal :=
  execC ⟨e, true, 0b011000#6, d, j⟩ s

/-- `alu[c=011001,a=1]` (R299): `out = -1`. -/
def execAluM011001 (e : BitVec 2) (d : Dest) (j : Jump) (s : State) : Host.Outcome State Fault Refusal :=
  execC ⟨e, true, 0b011001#6, d, j⟩ s

/-- `alu[c=011010,a=1]` (R299): `out = !D`. -/
def execAluM011010 (e : BitVec 2) (d : Dest) (j : Jump) (s : State) : Host.Outcome State Fault Refusal :=
  execC ⟨e, true, 0b011010#6, d, j⟩ s

/-- `alu[c=011011,a=1]` (R299): `out = D`. -/
def execAluM011011 (e : BitVec 2) (d : Dest) (j : Jump) (s : State) : Host.Outcome State Fault Refusal :=
  execC ⟨e, true, 0b011011#6, d, j⟩ s

/-- `alu[c=011100,a=1]` (R299): `out = !D`. -/
def execAluM011100 (e : BitVec 2) (d : Dest) (j : Jump) (s : State) : Host.Outcome State Fault Refusal :=
  execC ⟨e, true, 0b011100#6, d, j⟩ s

/-- `alu[c=011101,a=1]` (R299): `out = D`. -/
def execAluM011101 (e : BitVec 2) (d : Dest) (j : Jump) (s : State) : Host.Outcome State Fault Refusal :=
  execC ⟨e, true, 0b011101#6, d, j⟩ s

/-- `alu[c=011110,a=1]` (R299): `out = -D-2`. -/
def execAluM011110 (e : BitVec 2) (d : Dest) (j : Jump) (s : State) : Host.Outcome State Fault Refusal :=
  execC ⟨e, true, 0b011110#6, d, j⟩ s

/-- `alu[c=011111,a=1]` (R299): `out = D+1`. -/
def execAluM011111 (e : BitVec 2) (d : Dest) (j : Jump) (s : State) : Host.Outcome State Fault Refusal :=
  execC ⟨e, true, 0b011111#6, d, j⟩ s

/-- `alu[c=100000,a=1]` (R299): `out = 0`. -/
def execAluM100000 (e : BitVec 2) (d : Dest) (j : Jump) (s : State) : Host.Outcome State Fault Refusal :=
  execC ⟨e, true, 0b100000#6, d, j⟩ s

/-- `alu[c=100001,a=1]` (R299): `out = -1`. -/
def execAluM100001 (e : BitVec 2) (d : Dest) (j : Jump) (s : State) : Host.Outcome State Fault Refusal :=
  execC ⟨e, true, 0b100001#6, d, j⟩ s

/-- `alu[c=100010,a=1]` (R299): `out = M`. -/
def execAluM100010 (e : BitVec 2) (d : Dest) (j : Jump) (s : State) : Host.Outcome State Fault Refusal :=
  execC ⟨e, true, 0b100010#6, d, j⟩ s

/-- `alu[c=100011,a=1]` (R299): `out = !M`. -/
def execAluM100011 (e : BitVec 2) (d : Dest) (j : Jump) (s : State) : Host.Outcome State Fault Refusal :=
  execC ⟨e, true, 0b100011#6, d, j⟩ s

/-- `alu[c=100100,a=1]` (R299): `out = 0`. -/
def execAluM100100 (e : BitVec 2) (d : Dest) (j : Jump) (s : State) : Host.Outcome State Fault Refusal :=
  execC ⟨e, true, 0b100100#6, d, j⟩ s

/-- `alu[c=100101,a=1]` (R299): `out = -1`. -/
def execAluM100101 (e : BitVec 2) (d : Dest) (j : Jump) (s : State) : Host.Outcome State Fault Refusal :=
  execC ⟨e, true, 0b100101#6, d, j⟩ s

/-- `alu[c=100110,a=1]` (R299): `out = !M`. -/
def execAluM100110 (e : BitVec 2) (d : Dest) (j : Jump) (s : State) : Host.Outcome State Fault Refusal :=
  execC ⟨e, true, 0b100110#6, d, j⟩ s

/-- `alu[c=100111,a=1]` (R299): `out = M`. -/
def execAluM100111 (e : BitVec 2) (d : Dest) (j : Jump) (s : State) : Host.Outcome State Fault Refusal :=
  execC ⟨e, true, 0b100111#6, d, j⟩ s

/-- `alu[c=101000,a=1]` (R299): `out = 0`. -/
def execAluM101000 (e : BitVec 2) (d : Dest) (j : Jump) (s : State) : Host.Outcome State Fault Refusal :=
  execC ⟨e, true, 0b101000#6, d, j⟩ s

/-- `alu[c=101001,a=1]` (R299): `out = -1`. -/
def execAluM101001 (e : BitVec 2) (d : Dest) (j : Jump) (s : State) : Host.Outcome State Fault Refusal :=
  execC ⟨e, true, 0b101001#6, d, j⟩ s

/-- `alu[c=101010,a=1]` (R299): `out = 0`. -/
def execAluM101010 (e : BitVec 2) (d : Dest) (j : Jump) (s : State) : Host.Outcome State Fault Refusal :=
  execC ⟨e, true, 0b101010#6, d, j⟩ s

/-- `alu[c=101011,a=1]` (R299): `out = -1`. -/
def execAluM101011 (e : BitVec 2) (d : Dest) (j : Jump) (s : State) : Host.Outcome State Fault Refusal :=
  execC ⟨e, true, 0b101011#6, d, j⟩ s

/-- `alu[c=101100,a=1]` (R299): `out = 0`. -/
def execAluM101100 (e : BitVec 2) (d : Dest) (j : Jump) (s : State) : Host.Outcome State Fault Refusal :=
  execC ⟨e, true, 0b101100#6, d, j⟩ s

/-- `alu[c=101101,a=1]` (R299): `out = -1`. -/
def execAluM101101 (e : BitVec 2) (d : Dest) (j : Jump) (s : State) : Host.Outcome State Fault Refusal :=
  execC ⟨e, true, 0b101101#6, d, j⟩ s

/-- `alu[c=101110,a=1]` (R299): `out = -1`. -/
def execAluM101110 (e : BitVec 2) (d : Dest) (j : Jump) (s : State) : Host.Outcome State Fault Refusal :=
  execC ⟨e, true, 0b101110#6, d, j⟩ s

/-- `alu[c=101111,a=1]` (R299): `out = 0`. -/
def execAluM101111 (e : BitVec 2) (d : Dest) (j : Jump) (s : State) : Host.Outcome State Fault Refusal :=
  execC ⟨e, true, 0b101111#6, d, j⟩ s

/-- `alu[c=110100,a=1]` (R299): `out = !M`. -/
def execAluM110100 (e : BitVec 2) (d : Dest) (j : Jump) (s : State) : Host.Outcome State Fault Refusal :=
  execC ⟨e, true, 0b110100#6, d, j⟩ s

/-- `alu[c=110101,a=1]` (R299): `out = M`. -/
def execAluM110101 (e : BitVec 2) (d : Dest) (j : Jump) (s : State) : Host.Outcome State Fault Refusal :=
  execC ⟨e, true, 0b110101#6, d, j⟩ s

/-- `alu[c=110110,a=1]` (R299): `out = -M-2`. -/
def execAluM110110 (e : BitVec 2) (d : Dest) (j : Jump) (s : State) : Host.Outcome State Fault Refusal :=
  execC ⟨e, true, 0b110110#6, d, j⟩ s

/-- `alu[c=111000,a=1]` (R299): `out = 0`. -/
def execAluM111000 (e : BitVec 2) (d : Dest) (j : Jump) (s : State) : Host.Outcome State Fault Refusal :=
  execC ⟨e, true, 0b111000#6, d, j⟩ s

/-- `alu[c=111001,a=1]` (R299): `out = -1`. -/
def execAluM111001 (e : BitVec 2) (d : Dest) (j : Jump) (s : State) : Host.Outcome State Fault Refusal :=
  execC ⟨e, true, 0b111001#6, d, j⟩ s

/-- `alu[c=111010,a=1]` (R299): `out = -1`. -/
def execAluM111010 (e : BitVec 2) (d : Dest) (j : Jump) (s : State) : Host.Outcome State Fault Refusal :=
  execC ⟨e, true, 0b111010#6, d, j⟩ s

/-- `alu[c=111011,a=1]` (R299): `out = 0`. -/
def execAluM111011 (e : BitVec 2) (d : Dest) (j : Jump) (s : State) : Host.Outcome State Fault Refusal :=
  execC ⟨e, true, 0b111011#6, d, j⟩ s

/-- `alu[c=111100,a=1]` (R299): `out = -1`. -/
def execAluM111100 (e : BitVec 2) (d : Dest) (j : Jump) (s : State) : Host.Outcome State Fault Refusal :=
  execC ⟨e, true, 0b111100#6, d, j⟩ s

/-- `alu[c=111101,a=1]` (R299): `out = 0`. -/
def execAluM111101 (e : BitVec 2) (d : Dest) (j : Jump) (s : State) : Host.Outcome State Fault Refusal :=
  execC ⟨e, true, 0b111101#6, d, j⟩ s

/-- `alu[c=111110,a=1]` (R299): `out = -2`. -/
def execAluM111110 (e : BitVec 2) (d : Dest) (j : Jump) (s : State) : Host.Outcome State Fault Refusal :=
  execC ⟨e, true, 0b111110#6, d, j⟩ s

/-- `alu[c=111111,a=1]` (R299): `out = 1`. -/
def execAluM111111 (e : BitVec 2) (d : Dest) (j : Jump) (s : State) : Host.Outcome State Fault Refusal :=
  execC ⟨e, true, 0b111111#6, d, j⟩ s

end Sys2Proof.Machine
end

