-- ==== Sys2Proof/Machine/Dispatch.lean ====
section
/-! DEFINITION. Which meaning each instruction has: one arm per constructor of `Instr`. -/

namespace Sys2Proof.Machine

/-- The execution of an instruction: one direct call of its meaning. -/
def exec (i : Instr) (s : State) : Host.Outcome State Fault Refusal :=
  match i with
  | .atValue v => Sys2Proof.Machine.execAtValue v s
  | .zero e d j => Sys2Proof.Machine.execZero e d j s
  | .one e d j => Sys2Proof.Machine.execOne e d j s
  | .negOne e d j => Sys2Proof.Machine.execNegOne e d j s
  | .copyD e d j => Sys2Proof.Machine.execCopyD e d j s
  | .copyA e d j => Sys2Proof.Machine.execCopyA e d j s
  | .notD e d j => Sys2Proof.Machine.execNotD e d j s
  | .notA e d j => Sys2Proof.Machine.execNotA e d j s
  | .negD e d j => Sys2Proof.Machine.execNegD e d j s
  | .negA e d j => Sys2Proof.Machine.execNegA e d j s
  | .incD e d j => Sys2Proof.Machine.execIncD e d j s
  | .incA e d j => Sys2Proof.Machine.execIncA e d j s
  | .decD e d j => Sys2Proof.Machine.execDecD e d j s
  | .decA e d j => Sys2Proof.Machine.execDecA e d j s
  | .addDA e d j => Sys2Proof.Machine.execAddDA e d j s
  | .subDA e d j => Sys2Proof.Machine.execSubDA e d j s
  | .subAD e d j => Sys2Proof.Machine.execSubAD e d j s
  | .andDA e d j => Sys2Proof.Machine.execAndDA e d j s
  | .orDA e d j => Sys2Proof.Machine.execOrDA e d j s
  | .copyM e d j => Sys2Proof.Machine.execCopyM e d j s
  | .notM e d j => Sys2Proof.Machine.execNotM e d j s
  | .negM e d j => Sys2Proof.Machine.execNegM e d j s
  | .incM e d j => Sys2Proof.Machine.execIncM e d j s
  | .decM e d j => Sys2Proof.Machine.execDecM e d j s
  | .addDM e d j => Sys2Proof.Machine.execAddDM e d j s
  | .subDM e d j => Sys2Proof.Machine.execSubDM e d j s
  | .subMD e d j => Sys2Proof.Machine.execSubMD e d j s
  | .andDM e d j => Sys2Proof.Machine.execAndDM e d j s
  | .orDM e d j => Sys2Proof.Machine.execOrDM e d j s
  | .aluA000001 e d j => Sys2Proof.Machine.execAluA000001 e d j s
  | .aluA000011 e d j => Sys2Proof.Machine.execAluA000011 e d j s
  | .aluA000100 e d j => Sys2Proof.Machine.execAluA000100 e d j s
  | .aluA000101 e d j => Sys2Proof.Machine.execAluA000101 e d j s
  | .aluA000110 e d j => Sys2Proof.Machine.execAluA000110 e d j s
  | .aluA001000 e d j => Sys2Proof.Machine.execAluA001000 e d j s
  | .aluA001001 e d j => Sys2Proof.Machine.execAluA001001 e d j s
  | .aluA001010 e d j => Sys2Proof.Machine.execAluA001010 e d j s
  | .aluA001011 e d j => Sys2Proof.Machine.execAluA001011 e d j s
  | .aluA010000 e d j => Sys2Proof.Machine.execAluA010000 e d j s
  | .aluA010001 e d j => Sys2Proof.Machine.execAluA010001 e d j s
  | .aluA010010 e d j => Sys2Proof.Machine.execAluA010010 e d j s
  | .aluA010100 e d j => Sys2Proof.Machine.execAluA010100 e d j s
  | .aluA010110 e d j => Sys2Proof.Machine.execAluA010110 e d j s
  | .aluA010111 e d j => Sys2Proof.Machine.execAluA010111 e d j s
  | .aluA011000 e d j => Sys2Proof.Machine.execAluA011000 e d j s
  | .aluA011001 e d j => Sys2Proof.Machine.execAluA011001 e d j s
  | .aluA011010 e d j => Sys2Proof.Machine.execAluA011010 e d j s
  | .aluA011011 e d j => Sys2Proof.Machine.execAluA011011 e d j s
  | .aluA011100 e d j => Sys2Proof.Machine.execAluA011100 e d j s
  | .aluA011101 e d j => Sys2Proof.Machine.execAluA011101 e d j s
  | .aluA011110 e d j => Sys2Proof.Machine.execAluA011110 e d j s
  | .aluA100000 e d j => Sys2Proof.Machine.execAluA100000 e d j s
  | .aluA100001 e d j => Sys2Proof.Machine.execAluA100001 e d j s
  | .aluA100010 e d j => Sys2Proof.Machine.execAluA100010 e d j s
  | .aluA100011 e d j => Sys2Proof.Machine.execAluA100011 e d j s
  | .aluA100100 e d j => Sys2Proof.Machine.execAluA100100 e d j s
  | .aluA100101 e d j => Sys2Proof.Machine.execAluA100101 e d j s
  | .aluA100110 e d j => Sys2Proof.Machine.execAluA100110 e d j s
  | .aluA100111 e d j => Sys2Proof.Machine.execAluA100111 e d j s
  | .aluA101000 e d j => Sys2Proof.Machine.execAluA101000 e d j s
  | .aluA101001 e d j => Sys2Proof.Machine.execAluA101001 e d j s
  | .aluA101011 e d j => Sys2Proof.Machine.execAluA101011 e d j s
  | .aluA101100 e d j => Sys2Proof.Machine.execAluA101100 e d j s
  | .aluA101101 e d j => Sys2Proof.Machine.execAluA101101 e d j s
  | .aluA101110 e d j => Sys2Proof.Machine.execAluA101110 e d j s
  | .aluA101111 e d j => Sys2Proof.Machine.execAluA101111 e d j s
  | .aluA110100 e d j => Sys2Proof.Machine.execAluA110100 e d j s
  | .aluA110101 e d j => Sys2Proof.Machine.execAluA110101 e d j s
  | .aluA110110 e d j => Sys2Proof.Machine.execAluA110110 e d j s
  | .aluA111000 e d j => Sys2Proof.Machine.execAluA111000 e d j s
  | .aluA111001 e d j => Sys2Proof.Machine.execAluA111001 e d j s
  | .aluA111011 e d j => Sys2Proof.Machine.execAluA111011 e d j s
  | .aluA111100 e d j => Sys2Proof.Machine.execAluA111100 e d j s
  | .aluA111101 e d j => Sys2Proof.Machine.execAluA111101 e d j s
  | .aluA111110 e d j => Sys2Proof.Machine.execAluA111110 e d j s
  | .aluM000001 e d j => Sys2Proof.Machine.execAluM000001 e d j s
  | .aluM000011 e d j => Sys2Proof.Machine.execAluM000011 e d j s
  | .aluM000100 e d j => Sys2Proof.Machine.execAluM000100 e d j s
  | .aluM000101 e d j => Sys2Proof.Machine.execAluM000101 e d j s
  | .aluM000110 e d j => Sys2Proof.Machine.execAluM000110 e d j s
  | .aluM001000 e d j => Sys2Proof.Machine.execAluM001000 e d j s
  | .aluM001001 e d j => Sys2Proof.Machine.execAluM001001 e d j s
  | .aluM001010 e d j => Sys2Proof.Machine.execAluM001010 e d j s
  | .aluM001011 e d j => Sys2Proof.Machine.execAluM001011 e d j s
  | .aluM001100 e d j => Sys2Proof.Machine.execAluM001100 e d j s
  | .aluM001101 e d j => Sys2Proof.Machine.execAluM001101 e d j s
  | .aluM001110 e d j => Sys2Proof.Machine.execAluM001110 e d j s
  | .aluM001111 e d j => Sys2Proof.Machine.execAluM001111 e d j s
  | .aluM010000 e d j => Sys2Proof.Machine.execAluM010000 e d j s
  | .aluM010001 e d j => Sys2Proof.Machine.execAluM010001 e d j s
  | .aluM010010 e d j => Sys2Proof.Machine.execAluM010010 e d j s
  | .aluM010100 e d j => Sys2Proof.Machine.execAluM010100 e d j s
  | .aluM010110 e d j => Sys2Proof.Machine.execAluM010110 e d j s
  | .aluM010111 e d j => Sys2Proof.Machine.execAluM010111 e d j s
  | .aluM011000 e d j => Sys2Proof.Machine.execAluM011000 e d j s
  | .aluM011001 e d j => Sys2Proof.Machine.execAluM011001 e d j s
  | .aluM011010 e d j => Sys2Proof.Machine.execAluM011010 e d j s
  | .aluM011011 e d j => Sys2Proof.Machine.execAluM011011 e d j s
  | .aluM011100 e d j => Sys2Proof.Machine.execAluM011100 e d j s
  | .aluM011101 e d j => Sys2Proof.Machine.execAluM011101 e d j s
  | .aluM011110 e d j => Sys2Proof.Machine.execAluM011110 e d j s
  | .aluM011111 e d j => Sys2Proof.Machine.execAluM011111 e d j s
  | .aluM100000 e d j => Sys2Proof.Machine.execAluM100000 e d j s
  | .aluM100001 e d j => Sys2Proof.Machine.execAluM100001 e d j s
  | .aluM100010 e d j => Sys2Proof.Machine.execAluM100010 e d j s
  | .aluM100011 e d j => Sys2Proof.Machine.execAluM100011 e d j s
  | .aluM100100 e d j => Sys2Proof.Machine.execAluM100100 e d j s
  | .aluM100101 e d j => Sys2Proof.Machine.execAluM100101 e d j s
  | .aluM100110 e d j => Sys2Proof.Machine.execAluM100110 e d j s
  | .aluM100111 e d j => Sys2Proof.Machine.execAluM100111 e d j s
  | .aluM101000 e d j => Sys2Proof.Machine.execAluM101000 e d j s
  | .aluM101001 e d j => Sys2Proof.Machine.execAluM101001 e d j s
  | .aluM101010 e d j => Sys2Proof.Machine.execAluM101010 e d j s
  | .aluM101011 e d j => Sys2Proof.Machine.execAluM101011 e d j s
  | .aluM101100 e d j => Sys2Proof.Machine.execAluM101100 e d j s
  | .aluM101101 e d j => Sys2Proof.Machine.execAluM101101 e d j s
  | .aluM101110 e d j => Sys2Proof.Machine.execAluM101110 e d j s
  | .aluM101111 e d j => Sys2Proof.Machine.execAluM101111 e d j s
  | .aluM110100 e d j => Sys2Proof.Machine.execAluM110100 e d j s
  | .aluM110101 e d j => Sys2Proof.Machine.execAluM110101 e d j s
  | .aluM110110 e d j => Sys2Proof.Machine.execAluM110110 e d j s
  | .aluM111000 e d j => Sys2Proof.Machine.execAluM111000 e d j s
  | .aluM111001 e d j => Sys2Proof.Machine.execAluM111001 e d j s
  | .aluM111010 e d j => Sys2Proof.Machine.execAluM111010 e d j s
  | .aluM111011 e d j => Sys2Proof.Machine.execAluM111011 e d j s
  | .aluM111100 e d j => Sys2Proof.Machine.execAluM111100 e d j s
  | .aluM111101 e d j => Sys2Proof.Machine.execAluM111101 e d j s
  | .aluM111110 e d j => Sys2Proof.Machine.execAluM111110 e d j s
  | .aluM111111 e d j => Sys2Proof.Machine.execAluM111111 e d j s
  | .destNone e a c j => Sys2Proof.Machine.execDestNone e a c j s
  | .destM e a c j => Sys2Proof.Machine.execDestM e a c j s
  | .destD e a c j => Sys2Proof.Machine.execDestD e a c j s
  | .destMD e a c j => Sys2Proof.Machine.execDestMD e a c j s
  | .destA e a c j => Sys2Proof.Machine.execDestA e a c j s
  | .destAM e a c j => Sys2Proof.Machine.execDestAM e a c j s
  | .destAD e a c j => Sys2Proof.Machine.execDestAD e a c j s
  | .destAMD e a c j => Sys2Proof.Machine.execDestAMD e a c j s
  | .jumpNone e a c d => Sys2Proof.Machine.execJumpNone e a c d s
  | .jumpJGT e a c d => Sys2Proof.Machine.execJumpJGT e a c d s
  | .jumpJEQ e a c d => Sys2Proof.Machine.execJumpJEQ e a c d s
  | .jumpJGE e a c d => Sys2Proof.Machine.execJumpJGE e a c d s
  | .jumpJLT e a c d => Sys2Proof.Machine.execJumpJLT e a c d s
  | .jumpJNE e a c d => Sys2Proof.Machine.execJumpJNE e a c d s
  | .jumpJLE e a c d => Sys2Proof.Machine.execJumpJLE e a c d s
  | .jumpJMP e a c d => Sys2Proof.Machine.execJumpJMP e a c d s
  | .mulDA ign d j => Sys2Proof.Machine.execMulDA ign d j s
  | .mulDM ign d j => Sys2Proof.Machine.execMulDM ign d j s
  | .shlA ign d j => Sys2Proof.Machine.execShlA ign d j s
  | .shlD a ign d j => Sys2Proof.Machine.execShlD a ign d j s
  | .shlM ign d j => Sys2Proof.Machine.execShlM ign d j s
  | .shrA ign d j => Sys2Proof.Machine.execShrA ign d j s
  | .shrD a ign d j => Sys2Proof.Machine.execShrD a ign d j s
  | .shrM ign d j => Sys2Proof.Machine.execShrM ign d j s
  | .mulDAAlias ign d j => Sys2Proof.Machine.execMulDAAlias ign d j s
  | .mulDMAlias ign d j => Sys2Proof.Machine.execMulDMAlias ign d j s
  | .shrALo5 ign d j => Sys2Proof.Machine.execShrALo5 ign d j s
  | .shrDLo5 ign d j => Sys2Proof.Machine.execShrDLo5 ign d j s
  | .shlMLo5 ign d j => Sys2Proof.Machine.execShlMLo5 ign d j s
  | .shlDLo5 ign d j => Sys2Proof.Machine.execShlDLo5 ign d j s
  | .standardPath a c d j => Sys2Proof.Machine.execStandardPath a c d j s

end Sys2Proof.Machine
end

