-- ==== Sys2Proof/Machine/Step.lean ====
section
/-! DEFINITION. One tick of the machine (spec 43_cpu_cycle.md R235): fetch, decode, execute. -/

namespace Sys2Proof.Machine

/-- One tick: the instruction fetched at the PC is decoded and executed (R222, R223, R235). -/
def step (s : State) : Host.Outcome State Fault Refusal :=
  match fetch s with
  | .error r => .fault r
  | .ok w => exec (decode s.params w) s

/-- The state with the word `w` in the instruction memory where `step` fetches next, and a value in the PC (log entry 8). -/
def State.withFetchWord (s : State) (nbits w : Nat) : State :=
  { s with
    rom := Memory.insert s.rom s.pc.toNat (BitVec.ofNat 16 (w % 2 ^ nbits))
    unset := { s.unset with pc := false } }

end Sys2Proof.Machine
end

