-- ==== Sys2Proof/Machine/Bus.lean ====
section
/-! DEFINITION. The CPU's ports (spec 43_cpu_cycle.md R220, R226 to R228, R234): its outputs in a tick as functions of the
state, the instruction word and the memory word. -/

namespace Sys2Proof.Machine

/-- The output ports of R220. -/
structure CpuOut where
  outM : Word
  writeM : Bool
  addressM : Addr
  pc : Addr
deriving DecidableEq, Repr

/-- The outputs in one tick. `outM` of an A-instruction is unspecified (R228): it is the argument `idle`, any value (log
entry 11). The spec gives the ports no value in a tick in which A, D or the PC holds none (10_state.md R21): they drive what is
kept beside the mark (DESIGN CHOICE, log entry 19). -/
def cpuOut (s : State) (instruction inM idle : Word) : CpuOut :=
  let f := fieldsOf instruction
  { outM :=
      if instruction.getLsbD 15 then (functionUnit s.params f s.d (if f.a then inM else s.a)).out else idle
    writeM := instruction.getLsbD 15 && instruction.getLsbD 3
    addressM := s.addressM
    pc := s.pc }

end Sys2Proof.Machine
end

