-- ==== Sys2Proof/Machine/Gates.lean ====
section
/-! DEFINITION. The combinational gates (spec 40_primitives.md R120 to R131), each by its functional contract
(00_scope.md R6): a pure total function of its inputs. A 1-bit signal is a Bool. -/

namespace Sys2Proof.Machine

/-- The universal primitive, taken as NAND (R120, D26). -/
def nandGate (a b : Bool) : Bool := !(a && b)

/-- Not (R121). -/
def notGate (a : Bool) : Bool := !a

/-- And (R122). -/
def andGate (a b : Bool) : Bool := a && b

/-- Or (R123). -/
def orGate (a b : Bool) : Bool := a || b

/-- Xor (R124). -/
def xorGate (a b : Bool) : Bool := a != b

/-- Mux (R125): input 0 (`a`) when `sel = 0`. -/
def muxGate (a b sel : Bool) : Bool := if sel then b else a

/-- DMux (R126): the outputs `(a, b)`, the one not selected forced to 0. -/
def dmuxGate (inp sel : Bool) : Bool × Bool := if sel then (false, inp) else (inp, false)

/-- The bus-wide Not (R127). -/
def notBus {w : Nat} (v : BitVec w) : BitVec w := ~~~v

/-- The bus-wide And (R127). -/
def andBus {w : Nat} (a b : BitVec w) : BitVec w := a &&& b

/-- The bus-wide Or (R127). -/
def orBus {w : Nat} (a b : BitVec w) : BitVec w := a ||| b

/-- The bus-wide Mux, one select bit for the whole bus (R127). -/
def muxBus {w : Nat} (a b : BitVec w) (sel : Bool) : BitVec w := if sel then b else a

/-- `OrNWay` (R128): some input bit is 1. -/
def orNWay {n : Nat} (v : BitVec n) : Bool := (List.range n).any fun i => v.getLsbD i

/-- `AndNWay` (R128): every input bit is 1. -/
def andNWay {n : Nat} (v : BitVec n) : Bool := (List.range n).all fun i => v.getLsbD i

/-- The k-way multiplexer for `k = 2^b` inputs (R129, D25): input `u(sel)`. -/
def muxKWay {α : Type} {b : Nat} (ins : Vector α (2 ^ b)) (sel : BitVec b) : α := ins[sel.toNat]'sel.isLt

/-- The k-way demultiplexer for `k = 2^b` outputs (R130, D25): output `u(sel)` gets the input, every other one `zero`. -/
def dmuxKWay {α : Type} {b : Nat} (zero inp : α) (sel : BitVec b) : Vector α (2 ^ b) :=
  Vector.ofFn fun i => if i.val = sel.toNat then inp else zero

end Sys2Proof.Machine
end

