-- ==== Sys2Proof/Machine/Netlist.lean ====
section
/-! DEFINITION. Netlists of the two primitives, and their composition (spec 40_primitives.md R120, R131, R132;
60_exceptions.md R376). A netlist with a combinational cycle is refused when it is composed and is never evaluated. -/

namespace Sys2Proof.Machine

/-- What drives one of the `n` signals of a netlist: an input port, a NAND of two signals, or a flip-flop. -/
inductive Node (n : Nat) where
  | input (k : Nat)
  | nand (x y : Fin n)
  | dff (x : Fin n)
deriving DecidableEq, Repr

/-- A netlist of `n` signals (00_scope.md glossary: "a fixed netlist of Gates and/or State Elements"). -/
structure Netlist (n : Nat) where
  nodes : Vector (Node n) n
deriving DecidableEq, Repr

/-- Signal `i` has a value after at most `depth` gates from the inputs and the flip-flops. -/
def Netlist.settles {n : Nat} (nl : Netlist n) : Nat → Fin n → Bool
  | depth, i =>
    match nl.nodes[i], depth with
    | .input _, _ => true
    | .dff _, _ => true
    | .nand _ _, 0 => false
    | .nand x y, depth + 1 => nl.settles depth x && nl.settles depth y

/-- No path through gates alone leads back to its start (R132): every signal settles within `n` gates. -/
def Netlist.acyclic {n : Nat} (nl : Netlist n) : Bool := (List.finRange n).all fun i => nl.settles n i

/-- A netlist that composition has accepted. -/
structure Composed (n : Nat) where
  netlist : Netlist n
  acyclic : netlist.acyclic = true

/-- Composition (R132, R376): feedback through no state element is refused. -/
def Netlist.compose {n : Nat} (nl : Netlist n) : Except Refusal (Composed n) :=
  if h : nl.acyclic = true then .ok ⟨nl, h⟩ else .error .combinationalCycle

/-- The value of signal `i` in a tick, through at most `depth` gates, from the inputs and the flip-flops' current values. -/
def Netlist.value {n : Nat} (nl : Netlist n) (inp : Nat → Bool) (cur : Fin n → Bool) : Nat → Fin n → Bool
  | depth, i =>
    match nl.nodes[i], depth with
    | .input k, _ => inp k
    | .dff _, _ => cur i
    | .nand _ _, 0 => false
    | .nand x y, depth + 1 => nandGate (nl.value inp cur depth x) (nl.value inp cur depth y)

/-- The signals of a composed netlist in a tick (R131). -/
def Composed.signal {n : Nat} (c : Composed n) (inp : Nat → Bool) (cur : Fin n → Bool) (i : Fin n) : Bool :=
  c.netlist.value inp cur n i

/-- The flip-flops of a composed netlist in the next tick: each holds its input (R133). -/
def Composed.next {n : Nat} (c : Composed n) (inp : Nat → Bool) (cur : Fin n → Bool) (i : Fin n) : Bool :=
  match c.netlist.nodes[i] with
  | .dff x => c.signal inp cur x
  | _ => cur i

end Sys2Proof.Machine
end

