-- ==== Sys2Proof/Machine/Arith.lean ====
section
/-! DEFINITION. The arithmetic chips by their structure (spec 41_arithmetic.md R160 to R169). The function unit of
Alu.lean uses the integer laws these chips obey (R162, R165, R166, R169). -/

namespace Sys2Proof.Machine

/-- HalfAdder (R160): `(sum, carry)`. -/
def halfAdder (a b : Bool) : Bool × Bool := (xorGate a b, andGate a b)

/-- FullAdder (R161): `(sum, carry)`. -/
def fullAdder (a b c : Bool) : Bool × Bool :=
  (xorGate (xorGate a b) c, orGate (orGate (andGate a b) (andGate a c)) (andGate b c))

/-- Bit `i` of the ripple-carry adder of R162 and the carry out of it: a half adder at bit 0, then full adders. -/
def rippleBit (a b : Word) : Nat → Bool × Bool
  | 0 => halfAdder (a.getLsbD 0) (b.getLsbD 0)
  | i + 1 => fullAdder (a.getLsbD (i + 1)) (b.getLsbD (i + 1)) (rippleBit a b i).2

/-- A 16-bit bus from its bits, bit 0 first. -/
def busOfBits (f : Nat → Bool) : Word := BitVec.ofBoolListLE ((List.range 16).map f)

/-- Add16 (R162); the carry out of bit 15 is no output (R163). -/
def add16 (a b : Word) : Word := busOfBits fun i => (rippleBit a b i).1

/-- Inc16 (R164). -/
def inc16 (v : Word) : Word := add16 v 1#16

/-- ShiftRight by its wires (R165). -/
def shiftRightChip (v : Word) : Word := busOfBits fun i => if i = 15 then v.getLsbD 15 else v.getLsbD (i + 1)

/-- ShiftLeft by its wires (R166), for either value of `ASL_KEEPS_SIGN`. -/
def shiftLeftChip (keep : Bool) (v : Word) : Word :=
  busOfBits fun i => if i = 0 then false else if keep && i == 15 then v.getLsbD 15 else v.getLsbD (i - 1)

/-- The logical left shift by `i`, internal to the multiplier (R167). -/
def lslChip (v : Word) (i : Nat) : Word := busOfBits fun k => if i ≤ k then v.getLsbD (k - i) else false

/-- The partial product `p_i` of the multiplier (R168). -/
def partialProduct (x y : Word) (i : Nat) : Word := if y.getLsbD i then lslChip x i else 0#16

/-- The sum of the first `n` partial products, each addition an Add16 (R168). -/
def partialSum (x y : Word) : Nat → Word
  | 0 => 0#16
  | n + 1 => add16 (partialSum x y n) (partialProduct x y n)

/-- Mul (R168): shift and add over the 16 bits of `y`. -/
def mulChip (x y : Word) : Word := partialSum x y 16

end Sys2Proof.Machine
end

