-- ==== Sys2Proof/Machine/Seq.lean ====
section
/-! DEFINITION. The state-holding chips by their contract over one tick, from the inputs and the current output to the
next output (spec 40_primitives.md R133 to R136). -/

namespace Sys2Proof.Machine

/-- What a chip's state holds before its first tick, `none` for `⊥` (10_state.md R21). -/
def initialValue {α : Type} (zero : α) : InitPolicy → Option α
  | .undefined => none
  | .zero => some zero

/-- The flip-flop (R133): it stores its input at every tick. -/
def dffNext (inp _out : Bool) : Bool := inp

/-- The Bit (R134): a flip-flop fed by a multiplexer of its own output and the input. -/
def bitNext (inp load out : Bool) : Bool := dffNext (muxGate out inp load) out

/-- The 16-bit Register (R135): 16 Bits with one load. -/
def registerNext (inp : Word) (load : Bool) (out : Word) : Word :=
  busOfBits fun i => bitNext (inp.getLsbD i) load (out.getLsbD i)

/-- The program-counter chip (R136), in priority order reset, load, inc. -/
def pcChipNext (inp : Word) (load inc reset : Bool) (out : Word) : Word :=
  if reset then 0#16 else if load then inp else if inc then inc16 out else out

end Sys2Proof.Machine
end

