-- ==== Sys2Proof/Machine/Ram.lean ====
section
/-! DEFINITION. The hierarchical RAM (spec 20_memory.md R58 to R63). A RAM's shape is the list of the numbers of selecting
bits of its levels, the top first: `[]` is a single Register, 3 an 8-way level, 2 a 4-way level. -/

namespace Sys2Proof.Machine

/-- The width of the address bus of a RAM of a shape: `log2 N` (R58). -/
def ramBits : List Nat → Nat
  | [] => 0
  | b :: bs => b + ramBits bs

/-- The Registers of a RAM of a shape (R59). -/
def RamCells : List Nat → Type
  | [] => Word
  | b :: bs => Vector (RamCells bs) (2 ^ b)

/-- The high-order address bits, which select the child (R59). -/
def ramSel (b : Nat) (bs : List Nat) (address : BitVec (ramBits (b :: bs))) : BitVec b :=
  address.extractLsb' (ramBits bs) b

/-- The low-order address bits, fanned out to every child (R59). -/
def ramLow (b : Nat) (bs : List Nat) (address : BitVec (ramBits (b :: bs))) : BitVec (ramBits bs) :=
  address.extractLsb' 0 (ramBits bs)

/-- The output `out(t)`: the children's outputs through a multiplexer selected by the high bits (R61). -/
def ramOut : (shape : List Nat) → RamCells shape → BitVec (ramBits shape) → Word
  | [], cell, _ => cell
  | b :: bs, children, address =>
    muxKWay (Vector.map (fun child => ramOut bs child (ramLow b bs address)) children) (ramSel b bs address)

/-- The cells in the next tick: `load` goes through a demultiplexer to the selected child alone (R60). -/
def ramNext : (shape : List Nat) → RamCells shape → Word → Bool → BitVec (ramBits shape) → RamCells shape
  | [], cell, inp, load, _ => registerNext inp load cell
  | b :: bs, children, inp, load, address =>
    let child : Vector (RamCells bs) (2 ^ b) := children
    let loads : Vector Bool (2 ^ b) := dmuxKWay false load (ramSel b bs address)
    Vector.ofFn fun i : Fin (2 ^ b) => ramNext bs child[i] inp loads[i] (ramLow b bs address)

/-- A RAM whose every Register holds `v` (10_state.md R33: 0 before the first tick under `INIT_POLICY = Zero`). -/
def ramFilled (v : Word) : (shape : List Nat) → RamCells shape
  | [] => v
  | b :: bs => Vector.replicate (2 ^ b) (ramFilled v bs)

/-- The shapes of R62. -/
def ram8 : List Nat := [3]
def ram64 : List Nat := [3, 3]
def ram512 : List Nat := [3, 3, 3]
def ram4K : List Nat := [3, 3, 3, 3]
def ram16K : List Nat := [2, 3, 3, 3, 3]
def ram32K : List Nat := [3, 3, 3, 3, 3]

end Sys2Proof.Machine
end

