-- ==== Sys2Proof/Safety.lean ====
section
/-! DEFINITION. The terms the statements use: the invariant of the machine's states, when an instruction's destinations
and jump can be served, and the end of a run (spec 10_state.md R21; 43_cpu_cycle.md R236; 70_reset_and_hazards.md R407). -/

namespace Sys2Proof.Machine

/-- An element with the mark `⊥` keeps 0 beside it, and under `INIT_POLICY = Zero` no element has the mark (R21). -/
def State.marksWf (s : State) : Bool :=
  (!s.unset.a || s.a == 0#16) && (!s.unset.d || s.d == 0#16) && (!s.unset.pc || s.pc == 0#15) &&
    (s.params.initPolicy == .undefined || (!s.unset.a && !s.unset.d && !s.unset.pc))

/-- The invariant: both memories in canonical form, every listed data cell backed, the marks `⊥` as R21 says. -/
def State.wf (s : State) : Bool := Memory.wf s.params s.mem && Memory.romWf s.rom && s.marksWf

/-- A holds a value if the destination M or the target of a jump needs it (R235, R236); a jump that
`reset` overrides needs none (log entry 18). -/
def State.targetReady (s : State) (d : Dest) (j : Jump) (out : Word) : Bool :=
  !s.unset.a || !needsTarget d j out s

/-- Every value the computation of the C-instruction needs is there (R236): the PC, and D, A and M where it reads them. -/
def State.computable (s : State) (f : CFields) : Bool :=
  !s.unset.pc && (!needsX s.params f || !s.unset.d) && (!needsY s.params f || !s.unset.a) &&
    (!readsM s.params f || s.dataWord.isSome)

/-- Every value the C-instruction needs is there (R236): what its computation needs, and A where its destination or the
target of its jump needs it (log entry 18). -/
def State.ready (s : State) (f : CFields) : Bool := s.computable f && s.targetReady f.d f.j (resultC f s)

/-- The row computes words on this machine as its rule says: on the Standard variant whatever `e`, on the Extended one
with `e = 11` (45_c_compute.md R270). -/
def State.standardPath (s : State) (e : BitVec 2) : Prop := s.params.variant = .standard ∨ e = 0b11#2

/-- The instruction answers the next state in which its destinations and its jump have taken `out`, from the state `s'`
(which is `s`, or `s` with the trace of its read of M); but if A is needed as an address or a target (log entry 18) and holds no
value, it answers the fault of that read (R236, R310, R320). -/
def Commits (i : Instr) (d : Dest) (j : Jump) (out : Word) (s s' : State) : Prop :=
  (s.targetReady d j out = true → exec i s = .next (commit d j out s')) ∧
    (s.targetReady d j out = false → exec i s = .fault (.readUninit .a))

/-- A takes `out`, and A keeps its value. -/
def LoadsA (out : Word) (_ t : State) : Prop := t.a = out ∧ t.unset.a = false
def KeepsA (s t : State) : Prop := t.a = s.a ∧ t.unset.a = s.unset.a

/-- D takes `out`, and D keeps its value. -/
def LoadsD (out : Word) (_ t : State) : Prop := t.d = out ∧ t.unset.d = false
def KeepsD (s t : State) : Prop := t.d = s.d ∧ t.unset.d = s.unset.d

/-- The word at the old A takes `out`, no other cell changes and the host sees nothing; in the platform region the write is an
event and no cell changes (20_memory.md R56, R57). -/
def StoresM (out : Word) (s t : State) : Prop :=
  (s.backed s.addressM = true →
    t.cell s.addressM = some out ∧ (∀ k, k ≠ s.addressM → t.cell k = s.cell k) ∧ t.events = s.events) ∧
    (s.backed s.addressM = false → t.mem = s.mem ∧ t.events.head? = some (.write s.addressM out))

/-- No cell changes and no write is handed to the host. -/
def KeepsM (s t : State) : Prop := (∀ k, t.cell k = s.cell k) ∧ ∀ k v, t.events.head? = some (.write k v) → t.events = s.events

/-- The same state on a machine with `INIT_POLICY = Zero`: what held no value holds 0. -/
def State.zeroed (s : State) : State :=
  { s with
    params := { s.params with initPolicy := .zero }
    unset := ⟨false, false, false⟩
    mem := s.mem.filter fun c => c.2 != 0#16 }

/-- An end word (R407): a C-instruction with no destination that always jumps, whose computation needs no value. -/
def isEndWord (p : Params) (w : Word) : Bool :=
  w.getLsbD 15 && fieldD w == ⟨false, false, false⟩ && fieldJ w == ⟨true, true, true⟩ &&
    !needsX p (fieldsOf w) && !needsY p (fieldsOf w)

/-- The instruction memory holds an end word at `k`. -/
def State.endWordAt (s : State) (k : Nat) : Bool :=
  match Memory.lookup s.rom k with
  | some w => isEndWord s.params w
  | none => false

/-- Case 1 of R407: an end word that jumps to itself. -/
def State.endedOne (s : State) : Bool :=
  !s.unset.pc && !s.unset.a && s.endWordAt s.pc.toNat && s.addressM == s.pc

/-- Case 2 of R407: `@p` at `p`, and an end word at `p + 1`. -/
def State.endedTwo (s : State) : Bool :=
  !s.unset.pc && Memory.lookup s.rom s.pc.toNat == some (s.pc.setWidth 16) && decide (s.pc.toNat + 1 ≤ 0x7FFF) &&
    s.endWordAt (s.pc.toNat + 1)

/-- The run has ended (R407). The machine goes on executing the loop: this stops nothing. -/
def State.ended (s : State) : Bool := s.endedOne || s.endedTwo

end Sys2Proof.Machine
end

