-- ==== Sys2Proof/Certificates/Slice0/Obligations.lean ====
section
/-! DEFINITION. The statements about the model, each from the numbered rules of spec/ that its docstring names. -/

open Sys2Proof Sys2Proof.Machine

/-! ### Fetch, decode and encode -/

/-- 20_memory.md R52, 43_cpu_cycle.md R235: a tick runs the instruction decoded from the word at the PC, or stops at the fetch. -/
def Obligations.StepRunsDecodedInstruction : Prop :=
  ∀ s : State,
    (s.unset.pc = true → step s = .fault (.readUninit .pc)) ∧
    (s.unset.pc = false → Memory.lookup s.rom s.pc.toNat = none → step s = .fault (.fetchUnloaded s.pc)) ∧
    ∀ w, s.unset.pc = false → Memory.lookup s.rom s.pc.toNat = some w → step s = exec (decode s.params w) s

/-- Log entry 8: a word placed by `withFetchWord` is the one the next tick runs, and nothing but the instruction memory and
the PC's mark differs from the state it was placed in. -/
def Obligations.PlacedWordRunsNext : Prop :=
  ∀ (s : State) (w : Nat),
    step (s.withFetchWord 16 w) = exec (decode s.params (BitVec.ofNat 16 w)) (s.withFetchWord 16 w) ∧
    (s.withFetchWord 16 w).unset = { s.unset with pc := false } ∧
    { s.withFetchWord 16 w with rom := s.rom, unset := s.unset } = s ∧
    ∀ k, k ≠ s.pc.toNat → Memory.lookup (s.withFetchWord 16 w).rom k = Memory.lookup s.rom k

/-- Words written out in the rules of spec/ (R104, R260, R271, R280, R299, R316, R322, R341, R344, R349, R351) and what they
stand for. -/
def Obligations.SampleWordsDecode : Prop :=
  let std := Params.default
  let ext := { Params.default with variant := .extended }
  let ext5 := { Params.default with variant := .extended, extSelBLo := .five }
  let noDest : Dest := ⟨false, false, false⟩
  let noJump : Jump := ⟨false, false, false⟩
  decode std 0x0005#16 = .atValue 5#15 ∧
    decode std 0xEA80#16 = .zero 0b11#2 noDest noJump ∧
    decode std 0xEA87#16 = .zero 0b11#2 noDest ⟨true, true, true⟩ ∧
    decode std 0xE7C8#16 = .incD 0b11#2 ⟨false, false, true⟩ noJump ∧
    decode std 0xE7E8#16 = .incD 0b11#2 ⟨true, false, true⟩ noJump ∧
    decode std 0xE301#16 = .copyD 0b11#2 noDest ⟨false, false, true⟩ ∧
    decode std 0xE040#16 = .aluA000001 0b11#2 noDest noJump ∧
    decode std 0xFA80#16 = .aluM101010 0b11#2 noDest noJump ∧
    decode ext 0x8010#16 = .mulDA 0#6 ⟨false, true, false⟩ noJump ∧
    decode ext 0xC010#16 = .mulDAAlias 0#6 ⟨false, true, false⟩ noJump ∧
    decode ext 0xBC10#16 = .shlD true 0#4 ⟨false, true, false⟩ noJump ∧
    decode ext5 0xB000#16 = .shlMLo5 0#5 noDest noJump ∧
    .destM 0b11#2 false 0b011111#6 noJump ∈ readings std 0xE7C8#16 ∧
    .jumpJGT 0b11#2 false 0b001100#6 noDest ∈ readings std 0xE301#16 ∧
    .standardPath false 0b000010#6 ⟨false, true, false⟩ noJump ∈ readings ext 0xE090#16

/-- 30_encoding.md R92 to R102: decoding the word of a primary instruction gives the instruction back, every operand at every
value. The rows that are not primary are in `EveryRowIsAReading` (log entry 9). -/
def Obligations.DecodeOfEncode : Prop :=
  ∀ (p : Params) (i : Instr), i.wellFormed p = true → i.primary = true → decode p (encode i) = i

/-- 30_encoding.md R103: every one of the 2^16 words is an instruction of the machine, and encoding it gives the word back. -/
def Obligations.EncodeOfDecode : Prop :=
  ∀ (p : Params) (w : Word),
    encode (decode p w) = w ∧ (decode p w).wellFormed p = true ∧ (decode p w).primary = true

/-- Log entry 9: every row a machine has is a reading of its own word, and all readings of one word do the same. -/
def Obligations.EveryRowIsAReading : Prop :=
  (∀ (p : Params) (i : Instr), i.wellFormed p = true → i ∈ readings p (encode i)) ∧
    ∀ (p : Params) (w : Word) (i : Instr), i ∈ readings p w →
      encode i = w ∧ i.wellFormed p = true ∧ ∀ s : State, exec i s = exec (decode p w) s

/-- 30_encoding.md R98: on the Standard variant the effect of a C-instruction does not depend on bits 14 and 13. -/
def Obligations.StandardIgnoresBits14And13 : Prop :=
  ∀ (s : State) (w w' : Word), s.params.variant = .standard → w.getLsbD 15 = true →
    (∀ i, i ≠ 13 → i ≠ 14 → w'.getLsbD i = w.getLsbD i) →
    exec (decode s.params w') s = exec (decode s.params w) s

/-- 47_extended.md R340: a word with bits 14 and 13 set behaves the same in both variants. -/
def Obligations.SameInBothVariants : Prop :=
  ∀ (s : State) (w : Word), w.getLsbD 15 = true → fieldE w = 0b11#2 →
    let s1 := { s with params := { s.params with variant := .standard } }
    let s2 := { s with params := { s.params with variant := .extended } }
    (∀ r, exec (decode s1.params w) s1 = .fault r ↔ exec (decode s2.params w) s2 = .fault r) ∧
      ∀ t, exec (decode s1.params w) s1 = .next t →
        exec (decode s2.params w) s2 = .next { t with params := s2.params }

/-! ### The function units -/

/-- 42_alu.md R198: the closed form of each of the 64 codes. -/
def Obligations.AluClosedForms : Prop :=
  ∀ x y : Word,
    aluOut x y 0b000000#6 = x &&& y ∧
    aluOut x y 0b000001#6 = ~~~(x &&& y) ∧
    aluOut x y 0b000010#6 = x + y ∧
    aluOut x y 0b000011#6 = -x - y - 1#16 ∧
    aluOut x y 0b000100#6 = x &&& ~~~y ∧
    aluOut x y 0b000101#6 = ~~~x ||| y ∧
    aluOut x y 0b000110#6 = x - y - 1#16 ∧
    aluOut x y 0b000111#6 = y - x ∧
    aluOut x y 0b001000#6 = 0#16 ∧
    aluOut x y 0b001001#6 = -1#16 ∧
    aluOut x y 0b001010#6 = x ∧
    aluOut x y 0b001011#6 = ~~~x ∧
    aluOut x y 0b001100#6 = x ∧
    aluOut x y 0b001101#6 = ~~~x ∧
    aluOut x y 0b001110#6 = x - 1#16 ∧
    aluOut x y 0b001111#6 = -x ∧
    aluOut x y 0b010000#6 = ~~~x &&& y ∧
    aluOut x y 0b010001#6 = x ||| ~~~y ∧
    aluOut x y 0b010010#6 = y - x - 1#16 ∧
    aluOut x y 0b010011#6 = x - y ∧
    aluOut x y 0b010100#6 = ~~~(x ||| y) ∧
    aluOut x y 0b010101#6 = x ||| y ∧
    aluOut x y 0b010110#6 = -x - y - 2#16 ∧
    aluOut x y 0b010111#6 = x + y + 1#16 ∧
    aluOut x y 0b011000#6 = 0#16 ∧
    aluOut x y 0b011001#6 = -1#16 ∧
    aluOut x y 0b011010#6 = ~~~x ∧
    aluOut x y 0b011011#6 = x ∧
    aluOut x y 0b011100#6 = ~~~x ∧
    aluOut x y 0b011101#6 = x ∧
    aluOut x y 0b011110#6 = -x - 2#16 ∧
    aluOut x y 0b011111#6 = x + 1#16 ∧
    aluOut x y 0b100000#6 = 0#16 ∧
    aluOut x y 0b100001#6 = -1#16 ∧
    aluOut x y 0b100010#6 = y ∧
    aluOut x y 0b100011#6 = ~~~y ∧
    aluOut x y 0b100100#6 = 0#16 ∧
    aluOut x y 0b100101#6 = -1#16 ∧
    aluOut x y 0b100110#6 = ~~~y ∧
    aluOut x y 0b100111#6 = y ∧
    aluOut x y 0b101000#6 = 0#16 ∧
    aluOut x y 0b101001#6 = -1#16 ∧
    aluOut x y 0b101010#6 = 0#16 ∧
    aluOut x y 0b101011#6 = -1#16 ∧
    aluOut x y 0b101100#6 = 0#16 ∧
    aluOut x y 0b101101#6 = -1#16 ∧
    aluOut x y 0b101110#6 = -1#16 ∧
    aluOut x y 0b101111#6 = 0#16 ∧
    aluOut x y 0b110000#6 = y ∧
    aluOut x y 0b110001#6 = ~~~y ∧
    aluOut x y 0b110010#6 = y - 1#16 ∧
    aluOut x y 0b110011#6 = -y ∧
    aluOut x y 0b110100#6 = ~~~y ∧
    aluOut x y 0b110101#6 = y ∧
    aluOut x y 0b110110#6 = -y - 2#16 ∧
    aluOut x y 0b110111#6 = y + 1#16 ∧
    aluOut x y 0b111000#6 = 0#16 ∧
    aluOut x y 0b111001#6 = -1#16 ∧
    aluOut x y 0b111010#6 = -1#16 ∧
    aluOut x y 0b111011#6 = 0#16 ∧
    aluOut x y 0b111100#6 = -1#16 ∧
    aluOut x y 0b111101#6 = 0#16 ∧
    aluOut x y 0b111110#6 = -2#16 ∧
    aluOut x y 0b111111#6 = 1#16

/-- 42_alu.md R195, R196, R199: the two flags and `pos` as conditions on the signed result, exactly one of the three holding;
and the ALU's flags are those of its result. -/
def Obligations.FlagLaws : Prop :=
  (∀ out : Word,
    (flagZr out = true ↔ out = 0#16) ∧ (flagNg out = true ↔ out.toInt < 0) ∧ (flagPos out = true ↔ 0 < out.toInt) ∧
      (flagNg out).toNat + (flagZr out).toNat + (flagPos out).toNat = 1) ∧
    ∀ (x y : Word) (c : BitVec 6),
      (alu x y c).zr = decide ((alu x y c).out = 0#16) ∧ (alu x y c).ng = (alu x y c).out.getLsbD 15

/-- 42_alu.md R201, R202, R204, R205: the Extended ALU by its two selectors, `a` and the six ALU bits written as the bits of
the 9-bit code. -/
def Obligations.ExtendedAluByCase : Prop :=
  ∀ (p : Params) (x y : Word) (selA : BitVec 2) (a : Bool) (c : BitVec 6),
    let ext : BitVec 9 := selA ++ BitVec.ofBool a ++ c
    let operandIsX := if p.extSelBLo = .four then c.getLsbD 4 else c.getLsbD 5
    let left := if p.extSelBLo = .four then c.getLsbD 5 else a
    (selA = 0b00#2 ∨ selA = 0b10#2 → (extAlu p x y ext).out = x * y) ∧
      (selA = 0b01#2 → (extAlu p x y ext).out =
        if left then shiftLeft p.aslKeepsSign (if operandIsX then x else y)
        else (if operandIsX then x else y).sshiftRight 1) ∧
      (selA = 0b11#2 → extAlu p x y ext = alu x y c) ∧
      ((extAlu p x y ext).zr = true ↔ (extAlu p x y ext).out = 0#16) ∧
      ((extAlu p x y ext).ng = true ↔ (extAlu p x y ext).out.toInt < 0)

/-- 43_cpu_cycle.md R236: the table of the values an instruction needs; the result depends on no other value. -/
def Obligations.NeedsTable : Prop :=
  ∀ (p : Params) (f : CFields),
    (p.variant = .standard ∨ f.e = 0b11#2 → needsX p f = !f.c.getLsbD 5 ∧ needsY p f = !f.c.getLsbD 3) ∧
      (p.variant = .extended → f.e = 0b00#2 ∨ f.e = 0b10#2 → needsX p f = true ∧ needsY p f = true) ∧
      (p.variant = .extended → f.e = 0b01#2 →
        let selB0 := if p.extSelBLo = .four then f.c.getLsbD 4 else f.c.getLsbD 5
        needsX p f = selB0 ∧ needsY p f = !selB0) ∧
      ∀ x x' y y' : Word, (needsX p f = true → x = x') → (needsY p f = true → y = y') →
        functionUnit p f x y = functionUnit p f x' y'

/-! ### What each instruction does -/

/-- 44_a_instruction.md R260: `@v`, where the PC holds a value (elsewhere `NoValueInPcFaults`). -/
def Obligations.LiteralLoadsA : Prop :=
  ∀ (v : BitVec 15) (s : State),
    s.unset.pc = false → exec (.atValue v) s = .next { s with
      a := v.setWidth 16
      unset := { s.unset with a := false }
      pc := if s.resetNow then 0#15 else s.pc + 1#15
      resetIn := s.resetIn.tail }

/-- Log entry 13 (the model's reading of 43_cpu_cycle.md R235): every instruction executed where the PC holds no value faults. -/
def Obligations.NoValueInPcFaults : Prop :=
  ∀ (i : Instr) (s : State), s.unset.pc = true → exec i s = .fault (.readUninit .pc)

/-- 45_c_compute.md R271 to R273: the computations `0`, `1` and `-1` need no value. That a jump
overridden by `reset` needs no value in A is the model's reading (log entry 18, DEDUCED), not the words of these rules. -/
def Obligations.ConstantComputations : Prop :=
  ∀ (s : State) (e : BitVec 2) (d : Dest) (j : Jump), s.unset.pc = false → s.standardPath e →
    Commits (.zero e d j) d j 0x0000#16 s s ∧
    Commits (.one e d j) d j 0x0001#16 s s ∧
    Commits (.negOne e d j) d j 0xFFFF#16 s s

/-- 45_c_compute.md R274, R276, R278, R280, R282: the computations of D alone. That a jump
overridden by `reset` needs no value in A is the model's reading (log entry 18, DEDUCED), not the words of these rules. -/
def Obligations.ComputationsOfD : Prop :=
  ∀ (s : State) (e : BitVec 2) (d : Dest) (j : Jump), s.unset.pc = false → s.standardPath e →
    (s.unset.d = true → ∀ i ∈ ([.copyD e d j, .notD e d j, .negD e d j, .incD e d j, .decD e d j] : List Instr),
      exec i s = .fault (.readUninit .d)) ∧
    (s.unset.d = false →
      Commits (.copyD e d j) d j s.d s s ∧
      Commits (.notD e d j) d j (~~~s.d) s s ∧
      Commits (.negD e d j) d j (-s.d) s s ∧
      Commits (.incD e d j) d j (s.d + 1#16) s s ∧
      Commits (.decD e d j) d j (s.d - 1#16) s s)

/-- 45_c_compute.md R275, R277, R279, R281, R283: the computations of A alone. -/
def Obligations.ComputationsOfA : Prop :=
  ∀ (s : State) (e : BitVec 2) (d : Dest) (j : Jump), s.unset.pc = false → s.standardPath e →
    (s.unset.a = true → ∀ i ∈ ([.copyA e d j, .notA e d j, .negA e d j, .incA e d j, .decA e d j] : List Instr),
      exec i s = .fault (.readUninit .a)) ∧
    (s.unset.a = false →
      exec (.copyA e d j) s = .next (commit d j s.a s) ∧
      exec (.notA e d j) s = .next (commit d j (~~~s.a) s) ∧
      exec (.negA e d j) s = .next (commit d j (-s.a) s) ∧
      exec (.incA e d j) s = .next (commit d j (s.a + 1#16) s) ∧
      exec (.decA e d j) s = .next (commit d j (s.a - 1#16) s))

/-- 45_c_compute.md R284 to R288: the computations of D and A. -/
def Obligations.ComputationsOfDAndA : Prop :=
  ∀ (s : State) (e : BitVec 2) (d : Dest) (j : Jump), s.unset.pc = false → s.standardPath e →
    (s.unset.d = true → ∀ i ∈ ([.addDA e d j, .subDA e d j, .subAD e d j, .andDA e d j, .orDA e d j] : List Instr),
      exec i s = .fault (.readUninit .d)) ∧
    (s.unset.d = false → s.unset.a = true →
      ∀ i ∈ ([.addDA e d j, .subDA e d j, .subAD e d j, .andDA e d j, .orDA e d j] : List Instr),
        exec i s = .fault (.readUninit .a)) ∧
    (s.unset.d = false → s.unset.a = false →
      exec (.addDA e d j) s = .next (commit d j (s.d + s.a) s) ∧
      exec (.subDA e d j) s = .next (commit d j (s.d - s.a) s) ∧
      exec (.subAD e d j) s = .next (commit d j (s.a - s.d) s) ∧
      exec (.andDA e d j) s = .next (commit d j (s.d &&& s.a) s) ∧
      exec (.orDA e d j) s = .next (commit d j (s.d ||| s.a) s))

/-- 45_c_compute.md R289 to R293: the computations of M alone; the read of M leaves its trace (20_memory.md R57). -/
def Obligations.ComputationsOfM : Prop :=
  ∀ (s : State) (e : BitVec 2) (d : Dest) (j : Jump), s.unset.pc = false → s.standardPath e →
    (s.unset.a = true → ∀ i ∈ ([.copyM e d j, .notM e d j, .negM e d j, .incM e d j, .decM e d j] : List Instr),
      exec i s = .fault (.readUninit .a)) ∧
    (s.unset.a = false → s.dataWord = none →
      ∀ i ∈ ([.copyM e d j, .notM e d j, .negM e d j, .incM e d j, .decM e d j] : List Instr),
        exec i s = .fault (.readUninit .m)) ∧
    ∀ m, s.unset.a = false → s.dataWord = some m →
      exec (.copyM e d j) s = .next (commit d j m s.readM) ∧
      exec (.notM e d j) s = .next (commit d j (~~~m) s.readM) ∧
      exec (.negM e d j) s = .next (commit d j (-m) s.readM) ∧
      exec (.incM e d j) s = .next (commit d j (m + 1#16) s.readM) ∧
      exec (.decM e d j) s = .next (commit d j (m - 1#16) s.readM)

/-- 45_c_compute.md R294 to R298: the computations of D and M. -/
def Obligations.ComputationsOfDAndM : Prop :=
  ∀ (s : State) (e : BitVec 2) (d : Dest) (j : Jump), s.unset.pc = false → s.standardPath e →
    (s.unset.d = true → ∀ i ∈ ([.addDM e d j, .subDM e d j, .subMD e d j, .andDM e d j, .orDM e d j] : List Instr),
      exec i s = .fault (.readUninit .d)) ∧
    (s.unset.d = false → s.unset.a = true →
      ∀ i ∈ ([.addDM e d j, .subDM e d j, .subMD e d j, .andDM e d j, .orDM e d j] : List Instr),
        exec i s = .fault (.readUninit .a)) ∧
    (s.unset.d = false → s.unset.a = false → s.dataWord = none →
      ∀ i ∈ ([.addDM e d j, .subDM e d j, .subMD e d j, .andDM e d j, .orDM e d j] : List Instr),
        exec i s = .fault (.readUninit .m)) ∧
    ∀ m, s.unset.d = false → s.unset.a = false → s.dataWord = some m →
      exec (.addDM e d j) s = .next (commit d j (s.d + m) s.readM) ∧
      exec (.subDM e d j) s = .next (commit d j (s.d - m) s.readM) ∧
      exec (.subMD e d j) s = .next (commit d j (m - s.d) s.readM) ∧
      exec (.andDM e d j) s = .next (commit d j (s.d &&& m) s.readM) ∧
      exec (.orDM e d j) s = .next (commit d j (s.d ||| m) s.readM)

/-- 45_c_compute.md R299: the 46 unnamed codes with `a = 0`, each by the ALU on D and A. D is needed when `zx = 0` and A when
`zy = 0`. That a jump
overridden by `reset` needs no value in A is the model's reading (log entry 18, DEDUCED), not the words of these rules. -/
def Obligations.UnnamedCodesOnA : Prop :=
  ∀ (s : State) (e : BitVec 2) (d : Dest) (j : Jump), s.unset.pc = false → s.standardPath e →
    ∀ q ∈ ([
        (.aluA000001 e d j, 0b000001#6), (.aluA000011 e d j, 0b000011#6), (.aluA000100 e d j, 0b000100#6),
        (.aluA000101 e d j, 0b000101#6), (.aluA000110 e d j, 0b000110#6), (.aluA001000 e d j, 0b001000#6),
        (.aluA001001 e d j, 0b001001#6), (.aluA001010 e d j, 0b001010#6), (.aluA001011 e d j, 0b001011#6),
        (.aluA010000 e d j, 0b010000#6), (.aluA010001 e d j, 0b010001#6), (.aluA010010 e d j, 0b010010#6),
        (.aluA010100 e d j, 0b010100#6), (.aluA010110 e d j, 0b010110#6), (.aluA010111 e d j, 0b010111#6),
        (.aluA011000 e d j, 0b011000#6), (.aluA011001 e d j, 0b011001#6), (.aluA011010 e d j, 0b011010#6),
        (.aluA011011 e d j, 0b011011#6), (.aluA011100 e d j, 0b011100#6), (.aluA011101 e d j, 0b011101#6),
        (.aluA011110 e d j, 0b011110#6), (.aluA100000 e d j, 0b100000#6), (.aluA100001 e d j, 0b100001#6),
        (.aluA100010 e d j, 0b100010#6), (.aluA100011 e d j, 0b100011#6), (.aluA100100 e d j, 0b100100#6),
        (.aluA100101 e d j, 0b100101#6), (.aluA100110 e d j, 0b100110#6), (.aluA100111 e d j, 0b100111#6),
        (.aluA101000 e d j, 0b101000#6), (.aluA101001 e d j, 0b101001#6), (.aluA101011 e d j, 0b101011#6),
        (.aluA101100 e d j, 0b101100#6), (.aluA101101 e d j, 0b101101#6), (.aluA101110 e d j, 0b101110#6),
        (.aluA101111 e d j, 0b101111#6), (.aluA110100 e d j, 0b110100#6), (.aluA110101 e d j, 0b110101#6),
        (.aluA110110 e d j, 0b110110#6), (.aluA111000 e d j, 0b111000#6), (.aluA111001 e d j, 0b111001#6),
        (.aluA111011 e d j, 0b111011#6), (.aluA111100 e d j, 0b111100#6), (.aluA111101 e d j, 0b111101#6),
        (.aluA111110 e d j, 0b111110#6)
      ] : List (Instr × BitVec 6)),
      (q.2.getLsbD 5 = false → s.unset.d = true → exec q.1 s = .fault (.readUninit .d)) ∧
      ((q.2.getLsbD 5 = true ∨ s.unset.d = false) → q.2.getLsbD 3 = false → s.unset.a = true →
        exec q.1 s = .fault (.readUninit .a)) ∧
      ((q.2.getLsbD 5 = true ∨ s.unset.d = false) → (q.2.getLsbD 3 = true ∨ s.unset.a = false) →
        Commits q.1 d j (aluOut s.d s.a q.2) s s)

/-- 45_c_compute.md R299: the 54 unnamed codes with `a = 1`, each by the ALU on D and M. M is read only when `zy = 0`; with
`zy = 1` any word serves as `y`, here 0. That a jump
overridden by `reset` needs no value in A is the model's reading (log entry 18, DEDUCED), not the words of these rules. -/
def Obligations.UnnamedCodesOnM : Prop :=
  ∀ (s : State) (e : BitVec 2) (d : Dest) (j : Jump), s.unset.pc = false → s.standardPath e →
    ∀ q ∈ ([
        (.aluM000001 e d j, 0b000001#6), (.aluM000011 e d j, 0b000011#6), (.aluM000100 e d j, 0b000100#6),
        (.aluM000101 e d j, 0b000101#6), (.aluM000110 e d j, 0b000110#6), (.aluM001000 e d j, 0b001000#6),
        (.aluM001001 e d j, 0b001001#6), (.aluM001010 e d j, 0b001010#6), (.aluM001011 e d j, 0b001011#6),
        (.aluM001100 e d j, 0b001100#6), (.aluM001101 e d j, 0b001101#6), (.aluM001110 e d j, 0b001110#6),
        (.aluM001111 e d j, 0b001111#6), (.aluM010000 e d j, 0b010000#6), (.aluM010001 e d j, 0b010001#6),
        (.aluM010010 e d j, 0b010010#6), (.aluM010100 e d j, 0b010100#6), (.aluM010110 e d j, 0b010110#6),
        (.aluM010111 e d j, 0b010111#6), (.aluM011000 e d j, 0b011000#6), (.aluM011001 e d j, 0b011001#6),
        (.aluM011010 e d j, 0b011010#6), (.aluM011011 e d j, 0b011011#6), (.aluM011100 e d j, 0b011100#6),
        (.aluM011101 e d j, 0b011101#6), (.aluM011110 e d j, 0b011110#6), (.aluM011111 e d j, 0b011111#6),
        (.aluM100000 e d j, 0b100000#6), (.aluM100001 e d j, 0b100001#6), (.aluM100010 e d j, 0b100010#6),
        (.aluM100011 e d j, 0b100011#6), (.aluM100100 e d j, 0b100100#6), (.aluM100101 e d j, 0b100101#6),
        (.aluM100110 e d j, 0b100110#6), (.aluM100111 e d j, 0b100111#6), (.aluM101000 e d j, 0b101000#6),
        (.aluM101001 e d j, 0b101001#6), (.aluM101010 e d j, 0b101010#6), (.aluM101011 e d j, 0b101011#6),
        (.aluM101100 e d j, 0b101100#6), (.aluM101101 e d j, 0b101101#6), (.aluM101110 e d j, 0b101110#6),
        (.aluM101111 e d j, 0b101111#6), (.aluM110100 e d j, 0b110100#6), (.aluM110101 e d j, 0b110101#6),
        (.aluM110110 e d j, 0b110110#6), (.aluM111000 e d j, 0b111000#6), (.aluM111001 e d j, 0b111001#6),
        (.aluM111010 e d j, 0b111010#6), (.aluM111011 e d j, 0b111011#6), (.aluM111100 e d j, 0b111100#6),
        (.aluM111101 e d j, 0b111101#6), (.aluM111110 e d j, 0b111110#6), (.aluM111111 e d j, 0b111111#6)
      ] : List (Instr × BitVec 6)),
      (q.2.getLsbD 5 = false → s.unset.d = true → exec q.1 s = .fault (.readUninit .d)) ∧
      ((q.2.getLsbD 5 = true ∨ s.unset.d = false) →
        (q.2.getLsbD 3 = true → Commits q.1 d j (aluOut s.d 0#16 q.2) s s) ∧
        (q.2.getLsbD 3 = false → s.unset.a = true → exec q.1 s = .fault (.readUninit .a)) ∧
        (q.2.getLsbD 3 = false → s.unset.a = false → s.dataWord = none → exec q.1 s = .fault (.readUninit .m)) ∧
        ∀ m, q.2.getLsbD 3 = false → s.unset.a = false → s.dataWord = some m →
          exec q.1 s = .next (commit d j (aluOut s.d m q.2) s.readM))

/-- 47_extended.md R341, R342, R349: the multiplications and their aliases. -/
def Obligations.Multiplications : Prop :=
  ∀ (s : State) (ign : BitVec 6) (d : Dest) (j : Jump), s.unset.pc = false → s.params.variant = .extended →
    (s.unset.d = true → ∀ i ∈ ([.mulDA ign d j, .mulDM ign d j, .mulDAAlias ign d j, .mulDMAlias ign d j] : List Instr),
      exec i s = .fault (.readUninit .d)) ∧
    (s.unset.d = false → s.unset.a = true →
      ∀ i ∈ ([.mulDA ign d j, .mulDM ign d j, .mulDAAlias ign d j, .mulDMAlias ign d j] : List Instr),
        exec i s = .fault (.readUninit .a)) ∧
    (s.unset.d = false → s.unset.a = false →
      exec (.mulDA ign d j) s = .next (commit d j (BitVec.ofNat 16 (s.d.toNat * s.a.toNat)) s) ∧
      exec (.mulDAAlias ign d j) s = .next (commit d j (BitVec.ofNat 16 (s.d.toNat * s.a.toNat)) s)) ∧
    (s.unset.d = false → s.unset.a = false → s.dataWord = none →
      exec (.mulDM ign d j) s = .fault (.readUninit .m) ∧ exec (.mulDMAlias ign d j) s = .fault (.readUninit .m)) ∧
    ∀ m, s.unset.d = false → s.unset.a = false → s.dataWord = some m →
      exec (.mulDM ign d j) s = .next (commit d j (BitVec.ofNat 16 (s.d.toNat * m.toNat)) s.readM) ∧
      exec (.mulDMAlias ign d j) s = .next (commit d j (BitVec.ofNat 16 (s.d.toNat * m.toNat)) s.readM)

/-- 47_extended.md R343 to R348, with `EXT_SELB_LO = 4`: the six shifts. That a jump
overridden by `reset` needs no value in A is the model's reading (log entry 18, DEDUCED), not the words of these rules. -/
def Obligations.Shifts : Prop :=
  ∀ (s : State) (a : Bool) (ign : BitVec 4) (d : Dest) (j : Jump), s.unset.pc = false → s.params.variant = .extended →
    s.params.extSelBLo = .four →
    (s.unset.d = true → exec (.shlD a ign d j) s = .fault (.readUninit .d) ∧
      exec (.shrD a ign d j) s = .fault (.readUninit .d)) ∧
    (s.unset.d = false → Commits (.shlD a ign d j) d j (shiftLeft s.params.aslKeepsSign s.d) s s ∧
      Commits (.shrD a ign d j) d j (s.d.sshiftRight 1) s s) ∧
    (s.unset.a = true → ∀ i ∈ ([.shlA ign d j, .shrA ign d j, .shlM ign d j, .shrM ign d j] : List Instr),
      exec i s = .fault (.readUninit .a)) ∧
    (s.unset.a = false →
      exec (.shlA ign d j) s = .next (commit d j (shiftLeft s.params.aslKeepsSign s.a) s) ∧
      exec (.shrA ign d j) s = .next (commit d j (s.a.sshiftRight 1) s)) ∧
    (s.unset.a = false → s.dataWord = none →
      exec (.shlM ign d j) s = .fault (.readUninit .m) ∧ exec (.shrM ign d j) s = .fault (.readUninit .m)) ∧
    ∀ m, s.unset.a = false → s.dataWord = some m →
      exec (.shlM ign d j) s = .next (commit d j (shiftLeft s.params.aslKeepsSign m) s.readM) ∧
      exec (.shrM ign d j) s = .next (commit d j (m.sshiftRight 1) s.readM)

/-- 47_extended.md R351, with `EXT_SELB_LO = 5`: the four shifts that can be encoded. That a jump
overridden by `reset` needs no value in A is the model's reading (log entry 18, DEDUCED), not the words of these rules. -/
def Obligations.ShiftsWithSelectorBAtFive : Prop :=
  ∀ (s : State) (ign : BitVec 5) (d : Dest) (j : Jump), s.unset.pc = false → s.params.variant = .extended →
    s.params.extSelBLo = .five →
    (s.unset.d = true → exec (.shlDLo5 ign d j) s = .fault (.readUninit .d) ∧
      exec (.shrDLo5 ign d j) s = .fault (.readUninit .d)) ∧
    (s.unset.d = false → Commits (.shlDLo5 ign d j) d j (shiftLeft s.params.aslKeepsSign s.d) s s ∧
      Commits (.shrDLo5 ign d j) d j (s.d.sshiftRight 1) s s) ∧
    (s.unset.a = true → exec (.shrALo5 ign d j) s = .fault (.readUninit .a) ∧
      exec (.shlMLo5 ign d j) s = .fault (.readUninit .a)) ∧
    (s.unset.a = false → exec (.shrALo5 ign d j) s = .next (commit d j (s.a.sshiftRight 1) s)) ∧
    (s.unset.a = false → s.dataWord = none → exec (.shlMLo5 ign d j) s = .fault (.readUninit .m)) ∧
    ∀ m, s.unset.a = false → s.dataWord = some m →
      exec (.shlMLo5 ign d j) s = .next (commit d j (shiftLeft s.params.aslKeepsSign m) s.readM)

/-- 47_extended.md R350: with selector A = 11 the word is the computation row for its `a` and `c`, and when every value it
needs is there it completes with the ALU's result. That a jump
overridden by `reset` needs no value in A is the model's reading (log entry 18, DEDUCED), not the words of these rules. -/
def Obligations.StandardPathRow : Prop :=
  ∀ (s : State) (a : Bool) (c : BitVec 6) (d : Dest) (j : Jump), s.params.variant = .extended →
    exec (.standardPath a c d j) s = exec (decodeComputation 0b11#2 a c d j) s ∧
    (s.ready ⟨0b11#2, a, c, d, j⟩ = true →
      (a = false → exec (.standardPath a c d j) s = .next (commit d j (aluOut s.d s.a c) s)) ∧
      (a = true → c.getLsbD 3 = true → exec (.standardPath a c d j) s = .next (commit d j (aluOut s.d 0#16 c) s)) ∧
      (a = true → c.getLsbD 3 = false → ∃ m, s.dataWord = some m ∧
        exec (.standardPath a c d j) s = .next (commit d j (aluOut s.d m c) s.readM)))

/-- 46_c_dest_jump.md R310 to R318: each destination code, for every computation and jump whose needs are met; a store with no
value in A faults. That a jump
overridden by `reset` needs no value in A is the model's reading (log entry 18, DEDUCED), not the words of these rules. -/
def Obligations.DestinationRows : Prop :=
  ∀ (s : State) (e : BitVec 2) (a : Bool) (c : BitVec 6) (j : Jump),
    let f (dA dD dM : Bool) : CFields := ⟨e, a, c, ⟨dA, dD, dM⟩, j⟩
    let out := resultC (f false false false) s
    (s.ready (f false false false) = true →
      ∃ t, exec (.destNone e a c j) s = .next t ∧ KeepsA s t ∧ KeepsD s t ∧ KeepsM s t ∧
        (j = ⟨false, false, false⟩ → s.resetNow = false → t.pc = s.pc + 1#15)) ∧
    (s.ready (f false false true) = true →
      ∃ t, exec (.destM e a c j) s = .next t ∧ KeepsA s t ∧ KeepsD s t ∧ StoresM out s t) ∧
    (s.ready (f false true false) = true →
      ∃ t, exec (.destD e a c j) s = .next t ∧ KeepsA s t ∧ LoadsD out s t ∧ KeepsM s t) ∧
    (s.ready (f false true true) = true →
      ∃ t, exec (.destMD e a c j) s = .next t ∧ KeepsA s t ∧ LoadsD out s t ∧ StoresM out s t) ∧
    (s.ready (f true false false) = true →
      ∃ t, exec (.destA e a c j) s = .next t ∧ LoadsA out s t ∧ KeepsD s t ∧ KeepsM s t) ∧
    (s.ready (f true false true) = true →
      ∃ t, exec (.destAM e a c j) s = .next t ∧ LoadsA out s t ∧ KeepsD s t ∧ StoresM out s t) ∧
    (s.ready (f true true false) = true →
      ∃ t, exec (.destAD e a c j) s = .next t ∧ LoadsA out s t ∧ LoadsD out s t ∧ KeepsM s t) ∧
    (s.ready (f true true true) = true →
      ∃ t, exec (.destAMD e a c j) s = .next t ∧ LoadsA out s t ∧ LoadsD out s t ∧ StoresM out s t) ∧
    (s.computable (f false false true) = true → s.unset.a = true →
      ∀ i ∈ ([.destM e a c j, .destMD e a c j, .destAM e a c j, .destAMD e a c j] : List Instr),
        exec i s = .fault (.readUninit .a))

/-- 46_c_dest_jump.md R321 to R328: each jump code as a condition on the signed result, for every computation and destination
whose needs are met. `reset` overrides a taken jump, and the target is the old A without its bit 15; a jump taken without
`reset` and with no value in A faults (with `reset`: `OverriddenJumpNeedsNoTarget`). That a jump
overridden by `reset` needs no value in A is the model's reading (log entry 18, DEDUCED), not the words of these rules. -/
def Obligations.JumpRows : Prop :=
  ∀ (s : State) (e : BitVec 2) (a : Bool) (c : BitVec 6) (d : Dest),
    let f (jn jz jp : Bool) : CFields := ⟨e, a, c, d, ⟨jn, jz, jp⟩⟩
    let result := resultC (f false false false) s
    let out := result.toInt
    let goesTo (taken : Prop) (t : State) : Prop :=
      (s.resetNow = true → t.pc = 0#15) ∧
      (s.resetNow = false → taken → t.pc = s.a.setWidth 15) ∧
      (s.resetNow = false → ¬ taken → t.pc.toNat = (s.pc.toNat + 1) % 2 ^ 15)
    (s.ready (f false false false) = true → ∃ t, exec (.jumpNone e a c d) s = .next t ∧ goesTo False t) ∧
    (s.ready (f false false true) = true → ∃ t, exec (.jumpJGT e a c d) s = .next t ∧ goesTo (0 < out) t) ∧
    (s.ready (f false true false) = true → ∃ t, exec (.jumpJEQ e a c d) s = .next t ∧ goesTo (out = 0) t) ∧
    (s.ready (f false true true) = true → ∃ t, exec (.jumpJGE e a c d) s = .next t ∧ goesTo (0 ≤ out) t) ∧
    (s.ready (f true false false) = true → ∃ t, exec (.jumpJLT e a c d) s = .next t ∧ goesTo (out < 0) t) ∧
    (s.ready (f true false true) = true → ∃ t, exec (.jumpJNE e a c d) s = .next t ∧ goesTo (out ≠ 0) t) ∧
    (s.ready (f true true false) = true → ∃ t, exec (.jumpJLE e a c d) s = .next t ∧ goesTo (out ≤ 0) t) ∧
    (s.ready (f true true true) = true → ∃ t, exec (.jumpJMP e a c d) s = .next t ∧ goesTo True t) ∧
    (s.computable (f false false false) = true → s.unset.a = true → s.resetNow = false → ∀ (j : Jump) (i : Instr),
      i.format = .cInstr ⟨e, a, c, d, j⟩ → jumpTaken j result = true → exec i s = .fault (.readUninit .a))

/-- 43_cpu_cycle.md R235, 70_reset_and_hazards.md R401: a jump taken in a tick with `reset = 1` has no effect, so it needs no
target: the instruction completes with no value in A, goes to 0 and has its other effects (log entry 18). -/
def Obligations.OverriddenJumpNeedsNoTarget : Prop :=
  ∀ (s : State) (i : Instr) (f : CFields), i.format = .cInstr f → s.computable f = true → s.unset.a = true →
    f.d.toM = false → jumpTaken f.j (resultC f s) = true → s.resetNow = true →
    ∃ t, exec i s = .next t ∧ t.pc = 0#15 ∧ KeepsM s t ∧
      (if f.d.toA then LoadsA (resultC f s) s t else KeepsA s t) ∧
      (if f.d.toD then LoadsD (resultC f s) s t else KeepsD s t)

/-- 46_c_dest_jump.md R330: a C-instruction that writes A stores to, and jumps to, the A of the start of the tick. That a jump
overridden by `reset` needs no value in A is the model's reading (log entry 18, DEDUCED), not the words of these rules. -/
def Obligations.OldAddressAndTarget : Prop :=
  ∀ (s : State) (i : Instr) (f : CFields), i.format = .cInstr f → f.d.toA = true → s.ready f = true →
    ∃ t, exec i s = .next t ∧ LoadsA (resultC f s) s t ∧
      (f.d.toM = true → StoresM (resultC f s) s t) ∧
      (jumpTaken f.j (resultC f s) = true → s.resetNow = false → t.pc = s.a.setWidth 15)

/-- 30_encoding.md R104: a C-instruction with no destination and no jump changes no state but the PC. The trace of a read of
the platform region and the tick's `reset` value are the host's side, not state of the core (60_exceptions.md R384). -/
def Obligations.NoOpOnlyAdvances : Prop :=
  ∀ (s : State) (i : Instr) (f : CFields), i.format = .cInstr f → f.d = ⟨false, false, false⟩ →
    f.j = ⟨false, false, false⟩ → s.ready f = true →
    ∃ t, exec i s = .next t ∧
      t = { s with pc := nextPc s false, resetIn := s.resetIn.tail, draws := t.draws, events := t.events } ∧
      (readsM s.params f = false ∨ s.backed s.addressM = true → t.draws = s.draws ∧ t.events = s.events)

/-- The frame of every instruction: what a next state leaves unchanged. The address stored to is the old A's low 15 bits. -/
def Obligations.InstructionFrame : Prop :=
  ∀ (i : Instr) (s t : State), exec i s = .next t →
    t.rom = s.rom ∧ t.params = s.params ∧ t.unset.pc = s.unset.pc ∧ t.resetIn = s.resetIn.tail ∧
    (∀ v, i.format = .aInstr v →
      KeepsD s t ∧ (∀ k, t.cell k = s.cell k) ∧ t.mem = s.mem ∧ t.draws = s.draws ∧ t.events = s.events) ∧
    ∀ f, i.format = .cInstr f →
      (f.d.toA = false → KeepsA s t) ∧
      (f.d.toD = false → KeepsD s t) ∧
      (f.d.toM = false → t.mem = s.mem ∧ ∀ k, t.cell k = s.cell k) ∧
      (f.d.toM = true → ∀ k, k ≠ s.addressM → t.cell k = s.cell k) ∧
      (s.backed s.addressM = false → t.mem = s.mem) ∧
      (readsM s.params f = false ∨ s.backed s.addressM = true → t.draws = s.draws) ∧
      (s.backed s.addressM = true → t.events = s.events) ∧
      (readsM s.params f = false → f.d.toM = false → t.events = s.events)

/-! ### Memory -/

/-- 20_memory.md R55, R56: a write to a backed address is read back, and it changes no other cell and nothing else. -/
def Obligations.ReadAfterWrite : Prop :=
  ∀ (s : State) (v : Word), s.backed s.addressM = true →
    (s.writeM v).dataWord = some v ∧
    (∀ k, k ≠ s.addressM → (s.writeM v).cell k = s.cell k) ∧
    { s.writeM v with mem := s.mem } = s ∧
    s.dataWord = s.cell s.addressM ∧ s.readM = s

/-- 20_memory.md R54, R57: which addresses are backed; outside them a read answers the next value of the free sequence (log
entry 6) and a write is an event, and neither changes core state. -/
def Obligations.PlatformRegion : Prop :=
  (∀ (s : State) (k : Addr), s.params.dmemWords = .w32768 → s.backed k = true) ∧
    (∀ (s : State) (k : Addr), s.params.dmemWords = .w16384 → (s.backed k = true ↔ k.toNat ≤ 0x3FFF)) ∧
    ∀ (s : State) (v : Word), s.backed s.addressM = false →
      s.dataWord = some (Config.platformRead s.draws) ∧
      s.readM = { s with draws := s.draws + 1, events := .read s.addressM :: s.events } ∧
      s.writeM v = { s with events := .write s.addressM v :: s.events }

/-! ### The PC, reset and faults -/

/-- 60_exceptions.md R374: the next PC of every instruction, by its format, in the order reset, taken jump, increment. -/
def Obligations.NextPcPriority : Prop :=
  ∀ (i : Instr) (s t : State), exec i s = .next t →
    (s.resetNow = true → t.pc = 0#15) ∧
    (s.resetNow = false → ∀ v, i.format = .aInstr v → t.pc.toNat = (s.pc.toNat + 1) % 2 ^ 15) ∧
    (s.resetNow = false → ∀ f, i.format = .cInstr f →
      (jumpTaken f.j (resultC f s) = true → t.pc = s.addressM) ∧
      (jumpTaken f.j (resultC f s) = false → t.pc.toNat = (s.pc.toNat + 1) % 2 ^ 15))

/-- 43_cpu_cycle.md R233, 70_reset_and_hazards.md R400: the tick with `reset = 1` differs from the tick with `reset = 0` in
the next PC alone, and faults where that does, but for the fault of a jump whose target it overrides (R235, R401; log entry
18). -/
def Obligations.ResetChangesOnlyPc : Prop :=
  ∀ (i : Instr) (s : State),
    let s0 := { s with resetIn := false :: s.resetIn }
    let s1 := { s with resetIn := true :: s.resetIn }
    (∀ r, exec i s1 = .fault r → exec i s0 = .fault r) ∧
      (∀ r, exec i s0 = .fault r → exec i s1 = .fault r ∨
        (r = .readUninit .a ∧ s.unset.a = true ∧
          (∃ f, i.format = .cInstr f ∧ s.computable f = true ∧ f.d.toM = false ∧ jumpTaken f.j (resultC f s) = true) ∧
          ∃ t, exec i s1 = .next t ∧ t.pc = 0#15)) ∧
      ∀ t, exec i s0 = .next t → exec i s1 = .next { t with pc := 0#15 }

/-- 43_cpu_cycle.md R235 to R237: the outcome of a tick with its faults in the order PC, fetch, D, A (as `y`, address or target),
M. A target is needed only where `reset` does not override the jump (R235, R401; log entry 18). -/
def Obligations.FaultOrder : Prop :=
  ∀ s : State,
    (s.unset.pc = true → step s = .fault (.readUninit .pc)) ∧
    (s.unset.pc = false → Memory.lookup s.rom s.pc.toNat = none → step s = .fault (.fetchUnloaded s.pc)) ∧
    (∀ w v, s.unset.pc = false → Memory.lookup s.rom s.pc.toNat = some w → (decode s.params w).format = .aInstr v →
      ∃ t, step s = .next t ∧ t.a = v.setWidth 16) ∧
    ∀ w f, s.unset.pc = false → Memory.lookup s.rom s.pc.toNat = some w → (decode s.params w).format = .cInstr f →
      step s =
        if needsX s.params f = true ∧ s.unset.d = true then .fault (.readUninit .d)
        else if s.unset.a = true ∧ (needsY s.params f = true ∨ f.d.toM = true ∨
            (jumpTaken f.j (resultC f s) = true ∧ s.resetNow = false)) then
          .fault (.readUninit .a)
        else if readsM s.params f = true ∧ s.dataWord = none then .fault (.readUninit .m)
        else .next (commit f.d f.j (resultC f s) (traceC f s))

/-- 10_state.md R21, 60_exceptions.md R370: with `INIT_POLICY = Zero` every instruction completes in every state that meets
the invariant. -/
def Obligations.ZeroPolicyAlwaysCompletes : Prop :=
  ∀ (i : Instr) (s : State), s.wf = true → s.params.initPolicy = .zero →
    ∃ t, exec i s = .next t ∧
      (∀ v, i.format = .aInstr v → t.a = v.setWidth 16 ∧ t.d = s.d) ∧
      ∀ f, i.format = .cInstr f →
        t.a = (if f.d.toA then resultC f s else s.a) ∧ t.d = (if f.d.toD then resultC f s else s.d)

/-! ### Invariants, launch and the end of a run -/

/-- Every step keeps the invariant: both memories in canonical form, every listed cell backed, the marks as R21 says. -/
def Obligations.StepKeepsWf : Prop :=
  ∀ s t : State, s.wf = true → step s = .next t → t.wf = true

/-- The invariant holds at reset, at launch and at power-on. -/
def Obligations.InitialStatesAreWf : Prop :=
  State.reset.wf = true ∧
    ∀ (p : Params) (rom : Memory), Memory.romWf rom = true →
      (State.launch p rom).wf = true ∧ (State.powerOn p rom).wf = true

/-- 70_reset_and_hazards.md R403, R405: the launch state and the power-on state under each policy. -/
def Obligations.LaunchState : Prop :=
  ∀ (p : Params) (rom : Memory) (k : Addr),
    let s := State.launch p rom
    s.pc = 0#15 ∧ s.unset.pc = false ∧ s.rom = rom ∧ s.params = p ∧
    (State.powerOn p rom).rom = rom ∧ (State.powerOn p rom).params = p ∧
    (p.initPolicy = .undefined →
      s.unset.a = true ∧ s.unset.d = true ∧ s.cell k = none ∧
        (State.powerOn p rom).unset = ⟨true, true, true⟩ ∧ (State.powerOn p rom).cell k = none) ∧
    (p.initPolicy = .zero →
      s.unset.a = false ∧ s.unset.d = false ∧ s.a = 0#16 ∧ s.d = 0#16 ∧ s.cell k = some 0#16 ∧ State.powerOn p rom = s)

/-- The state after reset: the PC of 10_state.md R33, the defaults of 00_scope.md R8, and what the model chose (log entries 1,
2, 5, 6, 7, 8). -/
def Obligations.ResetValues : Prop :=
  State.reset.pc = 0#15 ∧ State.reset.a = 0#16 ∧ State.reset.d = 0#16 ∧ State.reset.unset = ⟨false, false, false⟩ ∧
    (∀ k, State.reset.cell k = some 0#16) ∧ State.reset.rom = [] ∧ State.reset.resetIn = [] ∧ State.reset.draws = 0 ∧
    State.reset.events = [] ∧ State.reset.params = ⟨.standard, .w16384, .zero, .four, true⟩

/-- 70_reset_and_hazards.md R404: a tick that completes under `Undefined` completes under `Zero` with the same values. -/
def Obligations.UndefinedRefinesZero : Prop :=
  ∀ s t : State, s.wf = true → s.params.initPolicy = .undefined → step s = .next t → step s.zeroed = .next t.zeroed

/-- 70_reset_and_hazards.md R407: once a run has ended and `reset` stays 0, the machine repeats one tick, or two ticks that
set A to the loop's address and change nothing else. -/
def Obligations.EndOfRunRepeats : Prop :=
  ∀ s : State, s.resetIn = [] →
    (s.endedOne = true → step s = .next s) ∧
    (s.endedTwo = true →
      let t := { s with a := s.pc.setWidth 16, unset := { s.unset with a := false } }
      step s = .next { t with pc := s.pc + 1#15 } ∧ step { t with pc := s.pc + 1#15 } = .next t)

/-! ### The chips -/

/-- 20_memory.md R58, R63: a RAM of any shape is observationally a flat array. -/
def Obligations.RamIsAFlatArray : Prop :=
  ∀ (shape : List Nat) (cells : RamCells shape) (inp : Word) (load : Bool) (k k' : BitVec (ramBits shape)),
    ramOut shape (ramNext shape cells inp load k) k' =
      if load = true ∧ k' = k then inp else ramOut shape cells k'

/-- 43_cpu_cycle.md R221, 20_memory.md R62: wherever the chip RAM16K (or RAM32K) holds the cells of a state, it holds the cells
of the next state after the tick that the CPU's ports drive. -/
def Obligations.DataMemoryIsTheRamChip : Prop :=
  ∀ (s t : State) (w inM idle : Word),
    (readsM s.params (fieldsOf w) = true → s.dataWord = some inM) → exec (decode s.params w) s = .next t →
    let o := cpuOut s w inM idle
    (s.params.dmemWords = .w16384 → ∀ cells : RamCells ram16K,
      (∀ k : BitVec (ramBits ram16K), s.cell (k.setWidth 15) = some (ramOut ram16K cells k)) →
      ∀ k : BitVec (ramBits ram16K), t.cell (k.setWidth 15) = some (ramOut ram16K
        (ramNext ram16K cells o.outM (o.writeM && !o.addressM.getLsbD 14) (o.addressM.setWidth (ramBits ram16K))) k)) ∧
    (s.params.dmemWords = .w32768 → ∀ cells : RamCells ram32K,
      (∀ k : BitVec (ramBits ram32K), s.cell (k.setWidth 15) = some (ramOut ram32K cells k)) →
      ∀ k : BitVec (ramBits ram32K), t.cell (k.setWidth 15) = some (ramOut ram32K
        (ramNext ram32K cells o.outM o.writeM (o.addressM.setWidth (ramBits ram32K))) k))

/-- 43_cpu_cycle.md R226 to R228: the memory a tick leaves, and the write it hands to the host, are what the CPU's ports of that
tick say, whatever `outM` idles at. What `addressM` drives where A holds no value is the model's choice (log entry 19). -/
def Obligations.CpuPortsDriveMemory : Prop :=
  ∀ (s t : State) (w inM idle : Word),
    (readsM s.params (fieldsOf w) = true → s.dataWord = some inM) → exec (decode s.params w) s = .next t →
    let o := cpuOut s w inM idle
    o.pc = s.pc ∧ o.addressM = s.a.setWidth 15 ∧
    (o.writeM = true → StoresM o.outM s t) ∧
    (o.writeM = false → t.mem = s.mem ∧ KeepsM s t)

/-- 43_cpu_cycle.md R230, R232, 10_state.md R27: A, D and the PC take the next outputs of the Register chips and of the 16-bit PC
chip, whose bit 15 no output ever shows; an A-instruction feeds the literal to A with load 1, and loads neither D nor the PC. -/
def Obligations.TickIsItsChips : Prop :=
  ∀ (i : Instr) (s t : State) (q : Word), exec i s = .next t → q.setWidth 15 = s.pc →
    (∀ v, i.format = .aInstr v →
      t.a = registerNext (v.setWidth 16) true s.a ∧
      (∀ out, t.d = registerNext out false s.d) ∧
      t.pc = (pcChipNext s.a false true s.resetNow q).setWidth 15) ∧
    ∀ f, i.format = .cInstr f →
      t.a = registerNext (resultC f s) f.d.toA s.a ∧
      t.d = registerNext (resultC f s) f.d.toD s.d ∧
      t.pc = (pcChipNext s.a (jumpTaken f.j (resultC f s)) true s.resetNow q).setWidth 15

/-- 41_arithmetic.md R160 to R164: the adder cells, the ripple-carry adder and the incrementer. -/
def Obligations.AdderLaws : Prop :=
  (∀ a b, 2 * (halfAdder a b).2.toNat + (halfAdder a b).1.toNat = a.toNat + b.toNat) ∧
    (∀ a b c, 2 * (fullAdder a b c).2.toNat + (fullAdder a b c).1.toNat = a.toNat + b.toNat + c.toNat) ∧
    ∀ a b : Word, (add16 a b).toNat = (a.toNat + b.toNat) % 2 ^ 16 ∧ add16 a b = BitVec.ofInt 16 (a.toInt + b.toInt) ∧
      (inc16 a).toNat = (a.toNat + 1) % 2 ^ 16

/-- 41_arithmetic.md R165 to R167: the shifters, by wires and by value. -/
def Obligations.ShifterLaws : Prop :=
  ∀ v : Word,
    shiftRightChip v = shiftRight v ∧ (shiftRight v).toInt = v.toInt / 2 ∧
    (∀ keep, shiftLeftChip keep v = shiftLeft keep v) ∧
    (shiftLeft false v).toNat = (2 * v.toNat) % 2 ^ 16 ∧
    (shiftLeft true v).toNat = 2 ^ 15 * (v.getLsbD 15).toNat + (2 * v.toNat) % 2 ^ 15 ∧
    ∀ i, i ≤ 15 → (lslChip v i).toNat = (v.toNat * 2 ^ i) % 2 ^ 16

/-- 41_arithmetic.md R168, R169: shift and add over the 16 bits is multiplication truncated to 16 bits. -/
def Obligations.MultiplierLaw : Prop :=
  ∀ x y : Word,
    (mulChip x y).toNat = (x.toNat * y.toNat) % 2 ^ 16 ∧ mulChip x y = BitVec.ofInt 16 (x.toInt * y.toInt) ∧
    mulChip x y = mul x y

/-- 40_primitives.md R120 to R126: every 1-bit gate is a composition of NAND. -/
def Obligations.GatesFromNand : Prop :=
  ∀ a b sel : Bool,
    notGate a = nandGate a a ∧
    andGate a b = nandGate (nandGate a b) (nandGate a b) ∧
    orGate a b = nandGate (nandGate a a) (nandGate b b) ∧
    xorGate a b = nandGate (nandGate a (nandGate a b)) (nandGate b (nandGate a b)) ∧
    muxGate a b sel = nandGate (nandGate a (nandGate sel sel)) (nandGate b sel) ∧
    dmuxGate a sel = (andGate a (notGate sel), andGate a sel)

/-- 40_primitives.md R127, R128: the bus gates bit by bit, and the wide gates as conditions on the whole bus. -/
def Obligations.WideGates : Prop :=
  (∀ (w : Nat) (u v : BitVec w) (sel : Bool) (i : Nat), i < w →
    (notBus u).getLsbD i = notGate (u.getLsbD i) ∧
    (andBus u v).getLsbD i = andGate (u.getLsbD i) (v.getLsbD i) ∧
    (orBus u v).getLsbD i = orGate (u.getLsbD i) (v.getLsbD i) ∧
    (muxBus u v sel).getLsbD i = muxGate (u.getLsbD i) (v.getLsbD i) sel) ∧
    (∀ (n : Nat) (v : BitVec n), (orNWay v = false ↔ v = 0#n) ∧ (andNWay v = true ↔ v = BitVec.allOnes n)) ∧
    ∀ out : Word, flagZr out = notGate (orNWay out)

/-- 40_primitives.md R129, R130: what a demultiplexer sends, the multiplexer with the same select bits receives, and every
other output is zero; one select bit is the 2-way Mux. -/
def Obligations.MuxOfDMux : Prop :=
  (∀ (b : Nat) (v : Word) (sel sel' : BitVec b),
    muxKWay (dmuxKWay 0#16 v sel) sel' = if sel' = sel then v else 0#16) ∧
    (∀ (b : Nat) (load : Bool) (sel : BitVec b) (i j : Fin (2 ^ b)),
      (dmuxKWay false load sel)[i] = true → (dmuxKWay false load sel)[j] = true → i = j) ∧
    ∀ (u v : Word) (sel : Bool), muxKWay (b := 1) #v[u, v] (BitVec.ofBool sel) = muxBus u v sel

/-- 40_primitives.md R131: in a composed netlist the signals of a tick are the one solution of its gates' equations, so no order
of evaluation can change them. -/
def Obligations.ComposedNetlistHasOneSolution : Prop :=
  ∀ (n : Nat) (c : Composed n) (inp : Nat → Bool) (cur v : Fin n → Bool),
    (∀ i, v i =
      match c.netlist.nodes[i] with
      | .input k => inp k
      | .dff _ => cur i
      | .nand x y => nandGate (v x) (v y)) ↔ v = c.signal inp cur

/-- 40_primitives.md R132, 60_exceptions.md R376: a netlist is refused at composition exactly when some of its gates feed each
other in a loop through gates alone: a nonempty set of gates, each with an input from the set. -/
def Obligations.CombinationalCycleRefused : Prop :=
  ∀ (n : Nat) (nl : Netlist n),
    (match nl.compose with
      | .error r => r = Refusal.combinationalCycle
      | .ok _ => False) ↔
    ∃ loop : Fin n → Bool, (∃ i, loop i = true) ∧
      ∀ i, loop i = true → ∃ x y, nl.nodes[i] = .nand x y ∧ (loop x = true ∨ loop y = true)
end

