-- ==== Sys2Proof/Laws/Chips.lean ====
section
/-! SUPPORT. The small lemmas of the chips' shared operations. -/

namespace Sys2Proof.Machine

@[simp] theorem getLsbD_busOfBits (f : Nat → Bool) (i : Nat) :
    (busOfBits f).getLsbD i = (decide (i < 16) && f i) := by
  have h : (busOfBits f).getLsbD i = ((List.range 16).map f).getD i false := BitVec.getLsbD_ofBoolListLE
  rw [h, List.getD_eq_getElem?_getD, List.getElem?_map]
  by_cases hi : i < 16
  · simp [hi]
  · simp [hi]

@[simp] theorem getElem_dmuxKWay {α : Type} {b : Nat} (zero inp : α) (sel : BitVec b) (i : Nat) (h : i < 2 ^ b) :
    (dmuxKWay zero inp sel)[i] = if i = sel.toNat then inp else zero := by
  simp [dmuxKWay]

theorem registerNext_eq (inp out : Word) (load : Bool) : registerNext inp load out = if load then inp else out := by
  apply BitVec.eq_of_getLsbD_eq
  intro i hi
  cases load <;> simp only [registerNext, getLsbD_busOfBits, bitNext, dffNext, muxGate, hi, decide_true,
    Bool.true_and, if_true, Bool.false_eq_true, if_false]

@[simp] theorem ramOut_ramFilled (v : Word) (shape : List Nat) (k : BitVec (ramBits shape)) :
    ramOut shape (ramFilled v shape) k = v := by
  induction shape with
  | nil => rfl
  | cons b bs ih => simp [ramOut, ramFilled, muxKWay, ih]

/-- One more gate of depth: a NAND's signal settles when its inputs do, every other signal at once. -/
theorem Netlist.settles_succ {n : Nat} (nl : Netlist n) (depth : Nat) (i : Fin n) : nl.settles (depth + 1) i =
    match nl.nodes[i] with
    | .nand x y => nl.settles depth x && nl.settles depth y
    | _ => true := by
  conv_lhs => unfold Netlist.settles
  cases nl.nodes[i] <;> rfl

/-- The value of a signal from the values its node names. -/
theorem Netlist.value_succ {n : Nat} (nl : Netlist n) (inp : Nat → Bool) (cur : Fin n → Bool) (depth : Nat) (i : Fin n) :
    nl.value inp cur (depth + 1) i =
      match nl.nodes[i] with
      | .input k => inp k
      | .dff _ => cur i
      | .nand x y => nandGate (nl.value inp cur depth x) (nl.value inp cur depth y) := by
  conv_lhs => unfold Netlist.value
  cases nl.nodes[i] <;> rfl

end Sys2Proof.Machine
end

