-- ==== Sys2Proof/Laws/Decode.lean ====
section
/-! SUPPORT. The laws of the field layout of 30_encoding.md R94: a word is its fields, and each field is read back. -/

namespace Sys2Proof

/-- The bits of a C-instruction word, field by field (R94). -/
theorem encodeC_getLsbD (f : CFields) (i : Nat) : (encodeC f).getLsbD i =
    if i < 3 then f.j.bits.getLsbD i
    else if i < 6 then f.d.bits.getLsbD (i - 3)
    else if i < 12 then f.c.getLsbD (i - 6)
    else if i < 13 then f.a
    else if i < 15 then f.e.getLsbD (i - 13)
    else decide (i = 15) := by
  have h : (encodeC f).getLsbD i =
      BitVec.getLsbD (w := 1 + 2 + 1 + 6 + 3 + 3)
        (1#1 ++ f.e ++ BitVec.ofBool f.a ++ f.c ++ f.d.bits ++ f.j.bits) i := rfl
  rw [h]
  simp only [BitVec.getLsbD_append, BitVec.getLsbD_ofBool]
  by_cases h3 : i < 3
  · simp only [h3, if_true]
  by_cases h6 : i < 6
  · simp only [h3, h6, if_true, if_false, show i - 3 < 3 by omega]
  by_cases h12 : i < 12
  · simp only [h3, h6, h12, if_true, if_false, show ¬ i - 3 < 3 by omega, show i - 3 - 3 < 6 by omega]
    congr 1
  by_cases h13 : i < 13
  · obtain rfl : i = 12 := by omega
    simp
  by_cases h15 : i < 15
  · simp only [h3, h6, h12, h13, h15, if_true, if_false, show ¬ i - 3 < 3 by omega, show ¬ i - 3 - 3 < 6 by omega,
      show ¬ i - 3 - 3 - 6 < 1 by omega, show i - 3 - 3 - 6 - 1 < 2 by omega]
    congr 1
  · have h : ∀ n : Nat, (1#1).getLsbD n = decide (n = 0) := by intro n; cases n <;> simp
    simp only [h3, h6, h12, h13, h15, if_false, show ¬ i - 3 < 3 by omega, show ¬ i - 3 - 3 < 6 by omega,
      show ¬ i - 3 - 3 - 6 < 1 by omega, show ¬ i - 3 - 3 - 6 - 1 < 2 by omega, h]
    congr 1; apply propext; omega

theorem Dest.getLsbD_bits (d : Dest) (i : Nat) : d.bits.getLsbD i =
    if i = 0 then d.toM else if i = 1 then d.toD else decide (i = 2) && d.toA := by
  obtain ⟨a, d, m⟩ := d
  match i with
  | 0 | 1 | 2 => cases a <;> cases d <;> cases m <;> rfl
  | i + 3 => simp

theorem Jump.getLsbD_bits (j : Jump) (i : Nat) : j.bits.getLsbD i =
    if i = 0 then j.onPos else if i = 1 then j.onZero else decide (i = 2) && j.onNeg := by
  obtain ⟨n, z, p⟩ := j
  match i with
  | 0 | 1 | 2 => cases n <;> cases z <;> cases p <;> rfl
  | i + 3 => simp

theorem encodeC_class (f : CFields) : (encodeC f).getLsbD 15 = true := by
  simp only [encodeC_getLsbD]; rfl

theorem fieldE_encodeC (f : CFields) : fieldE (encodeC f) = f.e := by
  apply BitVec.eq_of_getLsbD_eq
  intro i hi
  simp only [fieldE, BitVec.getLsbD_extractLsb', encodeC_getLsbD]
  interval_cases i <;> rfl

theorem fieldA_encodeC (f : CFields) : fieldA (encodeC f) = f.a := by
  simp only [fieldA, encodeC_getLsbD]; rfl

theorem fieldC_encodeC (f : CFields) : fieldC (encodeC f) = f.c := by
  apply BitVec.eq_of_getLsbD_eq
  intro i hi
  simp only [fieldC, BitVec.getLsbD_extractLsb', encodeC_getLsbD]
  interval_cases i <;> rfl

theorem fieldD_encodeC (f : CFields) : fieldD (encodeC f) = f.d := by
  simp only [fieldD, encodeC_getLsbD, Dest.getLsbD_bits]; rfl

theorem fieldJ_encodeC (f : CFields) : fieldJ (encodeC f) = f.j := by
  simp only [fieldJ, encodeC_getLsbD, Jump.getLsbD_bits]; rfl

/-- The fields of a C-instruction word are read back. -/
theorem fieldsOf_encodeC (f : CFields) : fieldsOf (encodeC f) = f := by
  simp only [fieldsOf, fieldE_encodeC, fieldA_encodeC, fieldC_encodeC, fieldD_encodeC, fieldJ_encodeC]

/-- A word of class C is its fields: no bit is dropped. -/
theorem encodeC_fieldsOf {w : Word} (h : w.getLsbD 15 = true) : encodeC (fieldsOf w) = w := by
  apply BitVec.eq_of_getLsbD_eq
  intro i hi
  simp only [encodeC_getLsbD, fieldsOf, fieldE, fieldA, fieldC, fieldD, fieldJ, Dest.getLsbD_bits, Jump.getLsbD_bits,
    BitVec.getLsbD_extractLsb']
  interval_cases i <;> first | rfl | exact h.symm

/-- The format of a computation row is the fields it was read from. -/
theorem format_decodeComputation (e : BitVec 2) (a : Bool) (c : BitVec 6) (d : Dest) (j : Jump) :
    (decodeComputation e a c d j).format = .cInstr ⟨e, a, c, d, j⟩ := by
  obtain ⟨n, hn⟩ : ∃ n : Nat, n < 64 ∧ c = BitVec.ofNat 6 n := ⟨c.toNat, c.isLt, by simp⟩
  obtain ⟨hn, rfl⟩ := hn
  cases a <;> interval_cases n <;> rfl

end Sys2Proof
end

