-- ==== Sys2Proof/Laws/Memory.lean ====
section
/-! SUPPORT. The laws of word memories: a read after a write, and that every operation keeps the canonical form. -/

namespace Sys2Proof.Machine

theorem Memory.lookup_insert (m : Memory) (k n : Nat) (v : Word) :
    Memory.lookup (Memory.insert m k v) n = if k = n then some v else Memory.lookup m n := by
  induction m with
  | nil => simp [Memory.insert, Memory.lookup]
  | cons c m ih =>
    obtain ⟨x, u⟩ := c
    simp only [Memory.insert]
    split
    · simp [Memory.lookup]
    · split
      · subst_vars; simp only [Memory.lookup]; split <;> simp_all
      · simp only [Memory.lookup, ih]; split <;> simp_all

theorem Memory.lookup_erase (m : Memory) (k n : Nat) :
    Memory.lookup (Memory.erase m k) n = if k = n then none else Memory.lookup m n := by
  induction m with
  | nil => simp [Memory.erase, Memory.lookup]
  | cons c m ih =>
    obtain ⟨x, u⟩ := c
    simp only [Memory.erase]
    split
    · subst_vars; simp only [Memory.lookup, ih]; split <;> simp_all
    · simp only [Memory.lookup, ih]; split
      · subst_vars; rw [if_neg (by omega)]
      · rfl

/-- A cell's value after a store: the word stored at its address, and every other cell as before. -/
theorem Memory.lookup_store (ip : InitPolicy) (m : Memory) (k n : Nat) (v : Word) :
    (Memory.lookup (Memory.store ip m k v) n).or (unlisted ip) =
      if k = n then some v else (Memory.lookup m n).or (unlisted ip) := by
  unfold Memory.store
  split
  · rw [Memory.lookup_erase]; split <;> simp_all
  · rw [Memory.lookup_insert]; split <;> simp

theorem Memory.risingFrom_mono {lo lo' : Nat} (h : lo' ≤ lo) :
    ∀ {m : Memory}, Memory.risingFrom (some lo) m = true → Memory.risingFrom (some lo') m = true
  | [], _ => rfl
  | (n, _) :: m, hm => by
    simp only [Memory.risingFrom, Bool.and_eq_true, decide_eq_true_eq] at hm ⊢
    exact ⟨by omega, hm.2⟩

theorem Memory.risingFrom_none {lo : Nat} : ∀ {m : Memory}, Memory.risingFrom (some lo) m = true →
    Memory.risingFrom none m = true
  | [], _ => rfl
  | (n, _) :: m, hm => by
    simp only [Memory.risingFrom, Bool.and_eq_true] at hm ⊢
    exact hm.2

theorem Memory.risingFrom_insert (m : Memory) (k : Nat) (v : Word) (lo : Option Nat) (hk : ∀ l ∈ lo, l < k)
    (h : Memory.risingFrom lo m = true) : Memory.risingFrom lo (Memory.insert m k v) = true := by
  induction m generalizing lo with
  | nil => cases lo <;> simp_all [Memory.insert, Memory.risingFrom]
  | cons c m ih =>
    obtain ⟨n, u⟩ := c
    have hm : Memory.risingFrom (some n) m = true := by cases lo <;> simp_all [Memory.risingFrom]
    simp only [Memory.insert]
    split
    · cases lo <;> simp_all [Memory.risingFrom]
    · split
      · subst_vars; cases lo <;> simp_all [Memory.risingFrom]
      · have := ih (some n) (by simp; omega) hm
        cases lo <;> simp_all [Memory.risingFrom]

theorem Memory.risingFrom_erase (m : Memory) (k : Nat) (lo : Option Nat)
    (h : Memory.risingFrom lo m = true) : Memory.risingFrom lo (Memory.erase m k) = true := by
  induction m generalizing lo with
  | nil => simpa [Memory.erase] using h
  | cons c m ih =>
    obtain ⟨n, u⟩ := c
    have hm : Memory.risingFrom (some n) m = true := by cases lo <;> simp_all [Memory.risingFrom]
    simp only [Memory.erase]
    split
    · cases lo with
      | none => exact ih none (Memory.risingFrom_none hm)
      | some l =>
        simp only [Memory.risingFrom, Bool.and_eq_true, decide_eq_true_eq] at h
        exact ih (some l) (Memory.risingFrom_mono (by omega) h.2)
    · have := ih (some n) hm
      cases lo <;> simp_all [Memory.risingFrom]

theorem Memory.mem_insert {m : Memory} {k : Nat} {v : Word} {c : Nat × Word} (h : c ∈ Memory.insert m k v) :
    c = (k, v) ∨ c ∈ m := by
  induction m with
  | nil => simpa [Memory.insert] using h
  | cons c' m ih =>
    simp only [Memory.insert] at h
    split at h
    · simpa using h
    · split at h
      · simp only [List.mem_cons] at h ⊢; tauto
      · simp only [List.mem_cons] at h ⊢; tauto

theorem Memory.mem_erase {m : Memory} {k : Nat} {c : Nat × Word} (h : c ∈ Memory.erase m k) : c ∈ m := by
  induction m with
  | nil => simp [Memory.erase] at h
  | cons c' m ih =>
    simp only [Memory.erase] at h
    split at h
    · exact List.mem_cons_of_mem _ (ih h)
    · simp only [List.mem_cons] at h ⊢; tauto

/-- Every write to the data memory keeps its canonical form. -/
theorem Memory.wf_store (p : Params) (m : Memory) (k : Nat) (v : Word) (hk : k < p.dmemWords.count)
    (h : Memory.wf p m = true) : Memory.wf p (Memory.store p.initPolicy m k v) = true := by
  simp only [Memory.wf, Bool.and_eq_true, List.all_eq_true] at h ⊢
  unfold Memory.store
  split
  · exact ⟨Memory.risingFrom_erase m k none h.1, fun c hc => h.2 c (Memory.mem_erase hc)⟩
  · refine ⟨Memory.risingFrom_insert m k v none (by simp) h.1, fun c hc => ?_⟩
    rcases Memory.mem_insert hc with rfl | hc
    · simp_all
    · exact h.2 c hc

/-- Loading a word of the program keeps the instruction memory's canonical form. -/
theorem Memory.romWf_insert (m : Memory) (k : Nat) (v : Word) (hk : k < 2 ^ 15) (h : Memory.romWf m = true) :
    Memory.romWf (Memory.insert m k v) = true := by
  simp only [Memory.romWf, Bool.and_eq_true, List.all_eq_true] at h ⊢
  refine ⟨Memory.risingFrom_insert m k v none (by simp) h.1, fun c hc => ?_⟩
  rcases Memory.mem_insert hc with rfl | hc
  · simpa using hk
  · exact h.2 c hc

/-- The memory at launch is in canonical form. -/
theorem State.launch_mem_wf (p : Params) (rom : Memory) : Memory.wf p (State.launch p rom).mem = true := rfl

end Sys2Proof.Machine
end

