-- ==== Sys2Proof/Laws/PerInstr.lean ====
section
/-! SUPPORT. The family `Encoding`, per instruction: the word of each row agrees with the row's "match" under its "mask" in
spec/opcode_table.json. -/

namespace Sys2Proof.Laws.Encoding

/-- The columns "match" and "mask" of each row of spec/opcode_table.json. -/
def pattern : Instr → Word × Word
  | .atValue _ => (0x0000#16, 0x8000#16)
  | .zero _ _ _ => (0x8A80#16, 0x9FC0#16)
  | .one _ _ _ => (0x8FC0#16, 0x9FC0#16)
  | .negOne _ _ _ => (0x8E80#16, 0x9FC0#16)
  | .copyD _ _ _ => (0x8300#16, 0x9FC0#16)
  | .copyA _ _ _ => (0x8C00#16, 0x9FC0#16)
  | .notD _ _ _ => (0x8340#16, 0x9FC0#16)
  | .notA _ _ _ => (0x8C40#16, 0x9FC0#16)
  | .negD _ _ _ => (0x83C0#16, 0x9FC0#16)
  | .negA _ _ _ => (0x8CC0#16, 0x9FC0#16)
  | .incD _ _ _ => (0x87C0#16, 0x9FC0#16)
  | .incA _ _ _ => (0x8DC0#16, 0x9FC0#16)
  | .decD _ _ _ => (0x8380#16, 0x9FC0#16)
  | .decA _ _ _ => (0x8C80#16, 0x9FC0#16)
  | .addDA _ _ _ => (0x8080#16, 0x9FC0#16)
  | .subDA _ _ _ => (0x84C0#16, 0x9FC0#16)
  | .subAD _ _ _ => (0x81C0#16, 0x9FC0#16)
  | .andDA _ _ _ => (0x8000#16, 0x9FC0#16)
  | .orDA _ _ _ => (0x8540#16, 0x9FC0#16)
  | .copyM _ _ _ => (0x9C00#16, 0x9FC0#16)
  | .notM _ _ _ => (0x9C40#16, 0x9FC0#16)
  | .negM _ _ _ => (0x9CC0#16, 0x9FC0#16)
  | .incM _ _ _ => (0x9DC0#16, 0x9FC0#16)
  | .decM _ _ _ => (0x9C80#16, 0x9FC0#16)
  | .addDM _ _ _ => (0x9080#16, 0x9FC0#16)
  | .subDM _ _ _ => (0x94C0#16, 0x9FC0#16)
  | .subMD _ _ _ => (0x91C0#16, 0x9FC0#16)
  | .andDM _ _ _ => (0x9000#16, 0x9FC0#16)
  | .orDM _ _ _ => (0x9540#16, 0x9FC0#16)
  | .aluA000001 _ _ _ => (0x8040#16, 0x9FC0#16)
  | .aluA000011 _ _ _ => (0x80C0#16, 0x9FC0#16)
  | .aluA000100 _ _ _ => (0x8100#16, 0x9FC0#16)
  | .aluA000101 _ _ _ => (0x8140#16, 0x9FC0#16)
  | .aluA000110 _ _ _ => (0x8180#16, 0x9FC0#16)
  | .aluA001000 _ _ _ => (0x8200#16, 0x9FC0#16)
  | .aluA001001 _ _ _ => (0x8240#16, 0x9FC0#16)
  | .aluA001010 _ _ _ => (0x8280#16, 0x9FC0#16)
  | .aluA001011 _ _ _ => (0x82C0#16, 0x9FC0#16)
  | .aluA010000 _ _ _ => (0x8400#16, 0x9FC0#16)
  | .aluA010001 _ _ _ => (0x8440#16, 0x9FC0#16)
  | .aluA010010 _ _ _ => (0x8480#16, 0x9FC0#16)
  | .aluA010100 _ _ _ => (0x8500#16, 0x9FC0#16)
  | .aluA010110 _ _ _ => (0x8580#16, 0x9FC0#16)
  | .aluA010111 _ _ _ => (0x85C0#16, 0x9FC0#16)
  | .aluA011000 _ _ _ => (0x8600#16, 0x9FC0#16)
  | .aluA011001 _ _ _ => (0x8640#16, 0x9FC0#16)
  | .aluA011010 _ _ _ => (0x8680#16, 0x9FC0#16)
  | .aluA011011 _ _ _ => (0x86C0#16, 0x9FC0#16)
  | .aluA011100 _ _ _ => (0x8700#16, 0x9FC0#16)
  | .aluA011101 _ _ _ => (0x8740#16, 0x9FC0#16)
  | .aluA011110 _ _ _ => (0x8780#16, 0x9FC0#16)
  | .aluA100000 _ _ _ => (0x8800#16, 0x9FC0#16)
  | .aluA100001 _ _ _ => (0x8840#16, 0x9FC0#16)
  | .aluA100010 _ _ _ => (0x8880#16, 0x9FC0#16)
  | .aluA100011 _ _ _ => (0x88C0#16, 0x9FC0#16)
  | .aluA100100 _ _ _ => (0x8900#16, 0x9FC0#16)
  | .aluA100101 _ _ _ => (0x8940#16, 0x9FC0#16)
  | .aluA100110 _ _ _ => (0x8980#16, 0x9FC0#16)
  | .aluA100111 _ _ _ => (0x89C0#16, 0x9FC0#16)
  | .aluA101000 _ _ _ => (0x8A00#16, 0x9FC0#16)
  | .aluA101001 _ _ _ => (0x8A40#16, 0x9FC0#16)
  | .aluA101011 _ _ _ => (0x8AC0#16, 0x9FC0#16)
  | .aluA101100 _ _ _ => (0x8B00#16, 0x9FC0#16)
  | .aluA101101 _ _ _ => (0x8B40#16, 0x9FC0#16)
  | .aluA101110 _ _ _ => (0x8B80#16, 0x9FC0#16)
  | .aluA101111 _ _ _ => (0x8BC0#16, 0x9FC0#16)
  | .aluA110100 _ _ _ => (0x8D00#16, 0x9FC0#16)
  | .aluA110101 _ _ _ => (0x8D40#16, 0x9FC0#16)
  | .aluA110110 _ _ _ => (0x8D80#16, 0x9FC0#16)
  | .aluA111000 _ _ _ => (0x8E00#16, 0x9FC0#16)
  | .aluA111001 _ _ _ => (0x8E40#16, 0x9FC0#16)
  | .aluA111011 _ _ _ => (0x8EC0#16, 0x9FC0#16)
  | .aluA111100 _ _ _ => (0x8F00#16, 0x9FC0#16)
  | .aluA111101 _ _ _ => (0x8F40#16, 0x9FC0#16)
  | .aluA111110 _ _ _ => (0x8F80#16, 0x9FC0#16)
  | .aluM000001 _ _ _ => (0x9040#16, 0x9FC0#16)
  | .aluM000011 _ _ _ => (0x90C0#16, 0x9FC0#16)
  | .aluM000100 _ _ _ => (0x9100#16, 0x9FC0#16)
  | .aluM000101 _ _ _ => (0x9140#16, 0x9FC0#16)
  | .aluM000110 _ _ _ => (0x9180#16, 0x9FC0#16)
  | .aluM001000 _ _ _ => (0x9200#16, 0x9FC0#16)
  | .aluM001001 _ _ _ => (0x9240#16, 0x9FC0#16)
  | .aluM001010 _ _ _ => (0x9280#16, 0x9FC0#16)
  | .aluM001011 _ _ _ => (0x92C0#16, 0x9FC0#16)
  | .aluM001100 _ _ _ => (0x9300#16, 0x9FC0#16)
  | .aluM001101 _ _ _ => (0x9340#16, 0x9FC0#16)
  | .aluM001110 _ _ _ => (0x9380#16, 0x9FC0#16)
  | .aluM001111 _ _ _ => (0x93C0#16, 0x9FC0#16)
  | .aluM010000 _ _ _ => (0x9400#16, 0x9FC0#16)
  | .aluM010001 _ _ _ => (0x9440#16, 0x9FC0#16)
  | .aluM010010 _ _ _ => (0x9480#16, 0x9FC0#16)
  | .aluM010100 _ _ _ => (0x9500#16, 0x9FC0#16)
  | .aluM010110 _ _ _ => (0x9580#16, 0x9FC0#16)
  | .aluM010111 _ _ _ => (0x95C0#16, 0x9FC0#16)
  | .aluM011000 _ _ _ => (0x9600#16, 0x9FC0#16)
  | .aluM011001 _ _ _ => (0x9640#16, 0x9FC0#16)
  | .aluM011010 _ _ _ => (0x9680#16, 0x9FC0#16)
  | .aluM011011 _ _ _ => (0x96C0#16, 0x9FC0#16)
  | .aluM011100 _ _ _ => (0x9700#16, 0x9FC0#16)
  | .aluM011101 _ _ _ => (0x9740#16, 0x9FC0#16)
  | .aluM011110 _ _ _ => (0x9780#16, 0x9FC0#16)
  | .aluM011111 _ _ _ => (0x97C0#16, 0x9FC0#16)
  | .aluM100000 _ _ _ => (0x9800#16, 0x9FC0#16)
  | .aluM100001 _ _ _ => (0x9840#16, 0x9FC0#16)
  | .aluM100010 _ _ _ => (0x9880#16, 0x9FC0#16)
  | .aluM100011 _ _ _ => (0x98C0#16, 0x9FC0#16)
  | .aluM100100 _ _ _ => (0x9900#16, 0x9FC0#16)
  | .aluM100101 _ _ _ => (0x9940#16, 0x9FC0#16)
  | .aluM100110 _ _ _ => (0x9980#16, 0x9FC0#16)
  | .aluM100111 _ _ _ => (0x99C0#16, 0x9FC0#16)
  | .aluM101000 _ _ _ => (0x9A00#16, 0x9FC0#16)
  | .aluM101001 _ _ _ => (0x9A40#16, 0x9FC0#16)
  | .aluM101010 _ _ _ => (0x9A80#16, 0x9FC0#16)
  | .aluM101011 _ _ _ => (0x9AC0#16, 0x9FC0#16)
  | .aluM101100 _ _ _ => (0x9B00#16, 0x9FC0#16)
  | .aluM101101 _ _ _ => (0x9B40#16, 0x9FC0#16)
  | .aluM101110 _ _ _ => (0x9B80#16, 0x9FC0#16)
  | .aluM101111 _ _ _ => (0x9BC0#16, 0x9FC0#16)
  | .aluM110100 _ _ _ => (0x9D00#16, 0x9FC0#16)
  | .aluM110101 _ _ _ => (0x9D40#16, 0x9FC0#16)
  | .aluM110110 _ _ _ => (0x9D80#16, 0x9FC0#16)
  | .aluM111000 _ _ _ => (0x9E00#16, 0x9FC0#16)
  | .aluM111001 _ _ _ => (0x9E40#16, 0x9FC0#16)
  | .aluM111010 _ _ _ => (0x9E80#16, 0x9FC0#16)
  | .aluM111011 _ _ _ => (0x9EC0#16, 0x9FC0#16)
  | .aluM111100 _ _ _ => (0x9F00#16, 0x9FC0#16)
  | .aluM111101 _ _ _ => (0x9F40#16, 0x9FC0#16)
  | .aluM111110 _ _ _ => (0x9F80#16, 0x9FC0#16)
  | .aluM111111 _ _ _ => (0x9FC0#16, 0x9FC0#16)
  | .destNone _ _ _ _ => (0x8000#16, 0x8038#16)
  | .destM _ _ _ _ => (0x8008#16, 0x8038#16)
  | .destD _ _ _ _ => (0x8010#16, 0x8038#16)
  | .destMD _ _ _ _ => (0x8018#16, 0x8038#16)
  | .destA _ _ _ _ => (0x8020#16, 0x8038#16)
  | .destAM _ _ _ _ => (0x8028#16, 0x8038#16)
  | .destAD _ _ _ _ => (0x8030#16, 0x8038#16)
  | .destAMD _ _ _ _ => (0x8038#16, 0x8038#16)
  | .jumpNone _ _ _ _ => (0x8000#16, 0x8007#16)
  | .jumpJGT _ _ _ _ => (0x8001#16, 0x8007#16)
  | .jumpJEQ _ _ _ _ => (0x8002#16, 0x8007#16)
  | .jumpJGE _ _ _ _ => (0x8003#16, 0x8007#16)
  | .jumpJLT _ _ _ _ => (0x8004#16, 0x8007#16)
  | .jumpJNE _ _ _ _ => (0x8005#16, 0x8007#16)
  | .jumpJLE _ _ _ _ => (0x8006#16, 0x8007#16)
  | .jumpJMP _ _ _ _ => (0x8007#16, 0x8007#16)
  | .mulDA _ _ _ => (0x8000#16, 0xF000#16)
  | .mulDM _ _ _ => (0x9000#16, 0xF000#16)
  | .shlA _ _ _ => (0xA800#16, 0xFC00#16)
  | .shlD _ _ _ _ => (0xAC00#16, 0xEC00#16)
  | .shlM _ _ _ => (0xB800#16, 0xFC00#16)
  | .shrA _ _ _ => (0xA000#16, 0xFC00#16)
  | .shrD _ _ _ _ => (0xA400#16, 0xEC00#16)
  | .shrM _ _ _ => (0xB000#16, 0xFC00#16)
  | .mulDAAlias _ _ _ => (0xC000#16, 0xF000#16)
  | .mulDMAlias _ _ _ => (0xD000#16, 0xF000#16)
  | .shrALo5 _ _ _ => (0xA000#16, 0xF800#16)
  | .shrDLo5 _ _ _ => (0xA800#16, 0xF800#16)
  | .shlMLo5 _ _ _ => (0xB000#16, 0xF800#16)
  | .shlDLo5 _ _ _ => (0xB800#16, 0xF800#16)
  | .standardPath _ _ _ _ => (0xE000#16, 0xE000#16)

/-- The encoder's word agrees with the table's row on every bit the row fixes. -/
def Statement (i : Instr) : Prop := encode i &&& (pattern i).2 = (pattern i).1

/-- Two words with the same bits under a mask agree under it. -/
theorem and_eq_of_bits {v w m : Word} (h : ∀ i < 16, m.getLsbD i = true → v.getLsbD i = w.getLsbD i) :
    v &&& m = w &&& m := by
  apply BitVec.eq_of_getLsbD_eq
  intro i hi
  rw [BitVec.getLsbD_and, BitVec.getLsbD_and]
  cases hm : m.getLsbD i
  · simp
  · rw [h i hi hm]

/-- A row of format C: bits 12 to 6 and the class are fixed. -/
theorem computation_row (e : BitVec 2) (a : Bool) (c : BitVec 6) (d : Dest) (j : Jump) (k : Word)
    (hk : encodeC ⟨0, a, c, ⟨false, false, false⟩, ⟨false, false, false⟩⟩ &&& 0x9FC0#16 = k) :
    encodeC ⟨e, a, c, d, j⟩ &&& 0x9FC0#16 = k := by
  rw [← hk]
  apply and_eq_of_bits
  intro i hi hm
  simp only [encodeC_getLsbD]
  interval_cases i <;> first | rfl | exact absurd hm (by decide)

/-- A row of format C-dest: bits 5 to 3 and the class are fixed. -/
theorem dest_row (e : BitVec 2) (a : Bool) (c : BitVec 6) (d : Dest) (j : Jump) (k : Word)
    (hk : encodeC ⟨0, false, 0, d, ⟨false, false, false⟩⟩ &&& 0x8038#16 = k) :
    encodeC ⟨e, a, c, d, j⟩ &&& 0x8038#16 = k := by
  rw [← hk]
  apply and_eq_of_bits
  intro i hi hm
  simp only [encodeC_getLsbD]
  interval_cases i <;> first | rfl | exact absurd hm (by decide)

/-- A row of format C-jump: bits 2 to 0 and the class are fixed. -/
theorem jump_row (e : BitVec 2) (a : Bool) (c : BitVec 6) (d : Dest) (j : Jump) (k : Word)
    (hk : encodeC ⟨0, false, 0, ⟨false, false, false⟩, j⟩ &&& 0x8007#16 = k) :
    encodeC ⟨e, a, c, d, j⟩ &&& 0x8007#16 = k := by
  rw [← hk]
  apply and_eq_of_bits
  intro i hi hm
  simp only [encodeC_getLsbD]
  interval_cases i <;> first | rfl | exact absurd hm (by decide)

/-- Of an Extended row's word, the bits above the destination. -/
theorem extended_row (e : BitVec 2) (a : Bool) (c : BitVec 6) (d : Dest) (j : Jump) (m k : Word)
    (h : m &&& 0x003F#16 = 0#16) (hk : encodeC ⟨e, a, c, ⟨false, false, false⟩, ⟨false, false, false⟩⟩ &&& m = k) :
    encodeC ⟨e, a, c, d, j⟩ &&& m = k := by
  rw [← hk]
  apply and_eq_of_bits
  intro i hi hm
  have hb : 6 ≤ i := by
    by_contra hc
    have := congrArg (fun v => BitVec.getLsbD v i) h
    simp only [BitVec.getLsbD_and, hm] at this
    interval_cases i <;> exact absurd this (by decide)
  simp only [encodeC_getLsbD]
  interval_cases i <;> rfl

theorem atValue (v : BitVec 15) : Statement (.atValue v) := by
  apply BitVec.eq_of_getLsbD_eq
  intro i hi
  have h : (encode (.atValue v)).getLsbD i = (decide (i < 16) && v.getLsbD i) := BitVec.getLsbD_setWidth ..
  rw [BitVec.getLsbD_and, h]
  interval_cases i <;> simp [pattern]
theorem zero (e : BitVec 2) (d : Dest) (j : Jump) : Statement (.zero e d j) := computation_row _ _ _ _ _ 0x8A80 (by decide)
theorem one (e : BitVec 2) (d : Dest) (j : Jump) : Statement (.one e d j) := computation_row _ _ _ _ _ 0x8FC0 (by decide)
theorem negOne (e : BitVec 2) (d : Dest) (j : Jump) : Statement (.negOne e d j) := computation_row _ _ _ _ _ 0x8E80 (by decide)
theorem copyD (e : BitVec 2) (d : Dest) (j : Jump) : Statement (.copyD e d j) := computation_row _ _ _ _ _ 0x8300 (by decide)
theorem copyA (e : BitVec 2) (d : Dest) (j : Jump) : Statement (.copyA e d j) := computation_row _ _ _ _ _ 0x8C00 (by decide)
theorem notD (e : BitVec 2) (d : Dest) (j : Jump) : Statement (.notD e d j) := computation_row _ _ _ _ _ 0x8340 (by decide)
theorem notA (e : BitVec 2) (d : Dest) (j : Jump) : Statement (.notA e d j) := computation_row _ _ _ _ _ 0x8C40 (by decide)
theorem negD (e : BitVec 2) (d : Dest) (j : Jump) : Statement (.negD e d j) := computation_row _ _ _ _ _ 0x83C0 (by decide)
theorem negA (e : BitVec 2) (d : Dest) (j : Jump) : Statement (.negA e d j) := computation_row _ _ _ _ _ 0x8CC0 (by decide)
theorem incD (e : BitVec 2) (d : Dest) (j : Jump) : Statement (.incD e d j) := computation_row _ _ _ _ _ 0x87C0 (by decide)
theorem incA (e : BitVec 2) (d : Dest) (j : Jump) : Statement (.incA e d j) := computation_row _ _ _ _ _ 0x8DC0 (by decide)
theorem decD (e : BitVec 2) (d : Dest) (j : Jump) : Statement (.decD e d j) := computation_row _ _ _ _ _ 0x8380 (by decide)
theorem decA (e : BitVec 2) (d : Dest) (j : Jump) : Statement (.decA e d j) := computation_row _ _ _ _ _ 0x8C80 (by decide)
theorem addDA (e : BitVec 2) (d : Dest) (j : Jump) : Statement (.addDA e d j) := computation_row _ _ _ _ _ 0x8080 (by decide)
theorem subDA (e : BitVec 2) (d : Dest) (j : Jump) : Statement (.subDA e d j) := computation_row _ _ _ _ _ 0x84C0 (by decide)
theorem subAD (e : BitVec 2) (d : Dest) (j : Jump) : Statement (.subAD e d j) := computation_row _ _ _ _ _ 0x81C0 (by decide)
theorem andDA (e : BitVec 2) (d : Dest) (j : Jump) : Statement (.andDA e d j) := computation_row _ _ _ _ _ 0x8000 (by decide)
theorem orDA (e : BitVec 2) (d : Dest) (j : Jump) : Statement (.orDA e d j) := computation_row _ _ _ _ _ 0x8540 (by decide)
theorem copyM (e : BitVec 2) (d : Dest) (j : Jump) : Statement (.copyM e d j) := computation_row _ _ _ _ _ 0x9C00 (by decide)
theorem notM (e : BitVec 2) (d : Dest) (j : Jump) : Statement (.notM e d j) := computation_row _ _ _ _ _ 0x9C40 (by decide)
theorem negM (e : BitVec 2) (d : Dest) (j : Jump) : Statement (.negM e d j) := computation_row _ _ _ _ _ 0x9CC0 (by decide)
theorem incM (e : BitVec 2) (d : Dest) (j : Jump) : Statement (.incM e d j) := computation_row _ _ _ _ _ 0x9DC0 (by decide)
theorem decM (e : BitVec 2) (d : Dest) (j : Jump) : Statement (.decM e d j) := computation_row _ _ _ _ _ 0x9C80 (by decide)
theorem addDM (e : BitVec 2) (d : Dest) (j : Jump) : Statement (.addDM e d j) := computation_row _ _ _ _ _ 0x9080 (by decide)
theorem subDM (e : BitVec 2) (d : Dest) (j : Jump) : Statement (.subDM e d j) := computation_row _ _ _ _ _ 0x94C0 (by decide)
theorem subMD (e : BitVec 2) (d : Dest) (j : Jump) : Statement (.subMD e d j) := computation_row _ _ _ _ _ 0x91C0 (by decide)
theorem andDM (e : BitVec 2) (d : Dest) (j : Jump) : Statement (.andDM e d j) := computation_row _ _ _ _ _ 0x9000 (by decide)
theorem orDM (e : BitVec 2) (d : Dest) (j : Jump) : Statement (.orDM e d j) := computation_row _ _ _ _ _ 0x9540 (by decide)
theorem aluA000001 (e : BitVec 2) (d : Dest) (j : Jump) : Statement (.aluA000001 e d j) := computation_row _ _ _ _ _ 0x8040 (by decide)
theorem aluA000011 (e : BitVec 2) (d : Dest) (j : Jump) : Statement (.aluA000011 e d j) := computation_row _ _ _ _ _ 0x80C0 (by decide)
theorem aluA000100 (e : BitVec 2) (d : Dest) (j : Jump) : Statement (.aluA000100 e d j) := computation_row _ _ _ _ _ 0x8100 (by decide)
theorem aluA000101 (e : BitVec 2) (d : Dest) (j : Jump) : Statement (.aluA000101 e d j) := computation_row _ _ _ _ _ 0x8140 (by decide)
theorem aluA000110 (e : BitVec 2) (d : Dest) (j : Jump) : Statement (.aluA000110 e d j) := computation_row _ _ _ _ _ 0x8180 (by decide)
theorem aluA001000 (e : BitVec 2) (d : Dest) (j : Jump) : Statement (.aluA001000 e d j) := computation_row _ _ _ _ _ 0x8200 (by decide)
theorem aluA001001 (e : BitVec 2) (d : Dest) (j : Jump) : Statement (.aluA001001 e d j) := computation_row _ _ _ _ _ 0x8240 (by decide)
theorem aluA001010 (e : BitVec 2) (d : Dest) (j : Jump) : Statement (.aluA001010 e d j) := computation_row _ _ _ _ _ 0x8280 (by decide)
theorem aluA001011 (e : BitVec 2) (d : Dest) (j : Jump) : Statement (.aluA001011 e d j) := computation_row _ _ _ _ _ 0x82C0 (by decide)
theorem aluA010000 (e : BitVec 2) (d : Dest) (j : Jump) : Statement (.aluA010000 e d j) := computation_row _ _ _ _ _ 0x8400 (by decide)
theorem aluA010001 (e : BitVec 2) (d : Dest) (j : Jump) : Statement (.aluA010001 e d j) := computation_row _ _ _ _ _ 0x8440 (by decide)
theorem aluA010010 (e : BitVec 2) (d : Dest) (j : Jump) : Statement (.aluA010010 e d j) := computation_row _ _ _ _ _ 0x8480 (by decide)
theorem aluA010100 (e : BitVec 2) (d : Dest) (j : Jump) : Statement (.aluA010100 e d j) := computation_row _ _ _ _ _ 0x8500 (by decide)
theorem aluA010110 (e : BitVec 2) (d : Dest) (j : Jump) : Statement (.aluA010110 e d j) := computation_row _ _ _ _ _ 0x8580 (by decide)
theorem aluA010111 (e : BitVec 2) (d : Dest) (j : Jump) : Statement (.aluA010111 e d j) := computation_row _ _ _ _ _ 0x85C0 (by decide)
theorem aluA011000 (e : BitVec 2) (d : Dest) (j : Jump) : Statement (.aluA011000 e d j) := computation_row _ _ _ _ _ 0x8600 (by decide)
theorem aluA011001 (e : BitVec 2) (d : Dest) (j : Jump) : Statement (.aluA011001 e d j) := computation_row _ _ _ _ _ 0x8640 (by decide)
theorem aluA011010 (e : BitVec 2) (d : Dest) (j : Jump) : Statement (.aluA011010 e d j) := computation_row _ _ _ _ _ 0x8680 (by decide)
theorem aluA011011 (e : BitVec 2) (d : Dest) (j : Jump) : Statement (.aluA011011 e d j) := computation_row _ _ _ _ _ 0x86C0 (by decide)
theorem aluA011100 (e : BitVec 2) (d : Dest) (j : Jump) : Statement (.aluA011100 e d j) := computation_row _ _ _ _ _ 0x8700 (by decide)
theorem aluA011101 (e : BitVec 2) (d : Dest) (j : Jump) : Statement (.aluA011101 e d j) := computation_row _ _ _ _ _ 0x8740 (by decide)
theorem aluA011110 (e : BitVec 2) (d : Dest) (j : Jump) : Statement (.aluA011110 e d j) := computation_row _ _ _ _ _ 0x8780 (by decide)
theorem aluA100000 (e : BitVec 2) (d : Dest) (j : Jump) : Statement (.aluA100000 e d j) := computation_row _ _ _ _ _ 0x8800 (by decide)
theorem aluA100001 (e : BitVec 2) (d : Dest) (j : Jump) : Statement (.aluA100001 e d j) := computation_row _ _ _ _ _ 0x8840 (by decide)
theorem aluA100010 (e : BitVec 2) (d : Dest) (j : Jump) : Statement (.aluA100010 e d j) := computation_row _ _ _ _ _ 0x8880 (by decide)
theorem aluA100011 (e : BitVec 2) (d : Dest) (j : Jump) : Statement (.aluA100011 e d j) := computation_row _ _ _ _ _ 0x88C0 (by decide)
theorem aluA100100 (e : BitVec 2) (d : Dest) (j : Jump) : Statement (.aluA100100 e d j) := computation_row _ _ _ _ _ 0x8900 (by decide)
theorem aluA100101 (e : BitVec 2) (d : Dest) (j : Jump) : Statement (.aluA100101 e d j) := computation_row _ _ _ _ _ 0x8940 (by decide)
theorem aluA100110 (e : BitVec 2) (d : Dest) (j : Jump) : Statement (.aluA100110 e d j) := computation_row _ _ _ _ _ 0x8980 (by decide)
theorem aluA100111 (e : BitVec 2) (d : Dest) (j : Jump) : Statement (.aluA100111 e d j) := computation_row _ _ _ _ _ 0x89C0 (by decide)
theorem aluA101000 (e : BitVec 2) (d : Dest) (j : Jump) : Statement (.aluA101000 e d j) := computation_row _ _ _ _ _ 0x8A00 (by decide)
theorem aluA101001 (e : BitVec 2) (d : Dest) (j : Jump) : Statement (.aluA101001 e d j) := computation_row _ _ _ _ _ 0x8A40 (by decide)
theorem aluA101011 (e : BitVec 2) (d : Dest) (j : Jump) : Statement (.aluA101011 e d j) := computation_row _ _ _ _ _ 0x8AC0 (by decide)
theorem aluA101100 (e : BitVec 2) (d : Dest) (j : Jump) : Statement (.aluA101100 e d j) := computation_row _ _ _ _ _ 0x8B00 (by decide)
theorem aluA101101 (e : BitVec 2) (d : Dest) (j : Jump) : Statement (.aluA101101 e d j) := computation_row _ _ _ _ _ 0x8B40 (by decide)
theorem aluA101110 (e : BitVec 2) (d : Dest) (j : Jump) : Statement (.aluA101110 e d j) := computation_row _ _ _ _ _ 0x8B80 (by decide)
theorem aluA101111 (e : BitVec 2) (d : Dest) (j : Jump) : Statement (.aluA101111 e d j) := computation_row _ _ _ _ _ 0x8BC0 (by decide)
theorem aluA110100 (e : BitVec 2) (d : Dest) (j : Jump) : Statement (.aluA110100 e d j) := computation_row _ _ _ _ _ 0x8D00 (by decide)
theorem aluA110101 (e : BitVec 2) (d : Dest) (j : Jump) : Statement (.aluA110101 e d j) := computation_row _ _ _ _ _ 0x8D40 (by decide)
theorem aluA110110 (e : BitVec 2) (d : Dest) (j : Jump) : Statement (.aluA110110 e d j) := computation_row _ _ _ _ _ 0x8D80 (by decide)
theorem aluA111000 (e : BitVec 2) (d : Dest) (j : Jump) : Statement (.aluA111000 e d j) := computation_row _ _ _ _ _ 0x8E00 (by decide)
theorem aluA111001 (e : BitVec 2) (d : Dest) (j : Jump) : Statement (.aluA111001 e d j) := computation_row _ _ _ _ _ 0x8E40 (by decide)
theorem aluA111011 (e : BitVec 2) (d : Dest) (j : Jump) : Statement (.aluA111011 e d j) := computation_row _ _ _ _ _ 0x8EC0 (by decide)
theorem aluA111100 (e : BitVec 2) (d : Dest) (j : Jump) : Statement (.aluA111100 e d j) := computation_row _ _ _ _ _ 0x8F00 (by decide)
theorem aluA111101 (e : BitVec 2) (d : Dest) (j : Jump) : Statement (.aluA111101 e d j) := computation_row _ _ _ _ _ 0x8F40 (by decide)
theorem aluA111110 (e : BitVec 2) (d : Dest) (j : Jump) : Statement (.aluA111110 e d j) := computation_row _ _ _ _ _ 0x8F80 (by decide)
theorem aluM000001 (e : BitVec 2) (d : Dest) (j : Jump) : Statement (.aluM000001 e d j) := computation_row _ _ _ _ _ 0x9040 (by decide)
theorem aluM000011 (e : BitVec 2) (d : Dest) (j : Jump) : Statement (.aluM000011 e d j) := computation_row _ _ _ _ _ 0x90C0 (by decide)
theorem aluM000100 (e : BitVec 2) (d : Dest) (j : Jump) : Statement (.aluM000100 e d j) := computation_row _ _ _ _ _ 0x9100 (by decide)
theorem aluM000101 (e : BitVec 2) (d : Dest) (j : Jump) : Statement (.aluM000101 e d j) := computation_row _ _ _ _ _ 0x9140 (by decide)
theorem aluM000110 (e : BitVec 2) (d : Dest) (j : Jump) : Statement (.aluM000110 e d j) := computation_row _ _ _ _ _ 0x9180 (by decide)
theorem aluM001000 (e : BitVec 2) (d : Dest) (j : Jump) : Statement (.aluM001000 e d j) := computation_row _ _ _ _ _ 0x9200 (by decide)
theorem aluM001001 (e : BitVec 2) (d : Dest) (j : Jump) : Statement (.aluM001001 e d j) := computation_row _ _ _ _ _ 0x9240 (by decide)
theorem aluM001010 (e : BitVec 2) (d : Dest) (j : Jump) : Statement (.aluM001010 e d j) := computation_row _ _ _ _ _ 0x9280 (by decide)
theorem aluM001011 (e : BitVec 2) (d : Dest) (j : Jump) : Statement (.aluM001011 e d j) := computation_row _ _ _ _ _ 0x92C0 (by decide)
theorem aluM001100 (e : BitVec 2) (d : Dest) (j : Jump) : Statement (.aluM001100 e d j) := computation_row _ _ _ _ _ 0x9300 (by decide)
theorem aluM001101 (e : BitVec 2) (d : Dest) (j : Jump) : Statement (.aluM001101 e d j) := computation_row _ _ _ _ _ 0x9340 (by decide)
theorem aluM001110 (e : BitVec 2) (d : Dest) (j : Jump) : Statement (.aluM001110 e d j) := computation_row _ _ _ _ _ 0x9380 (by decide)
theorem aluM001111 (e : BitVec 2) (d : Dest) (j : Jump) : Statement (.aluM001111 e d j) := computation_row _ _ _ _ _ 0x93C0 (by decide)
theorem aluM010000 (e : BitVec 2) (d : Dest) (j : Jump) : Statement (.aluM010000 e d j) := computation_row _ _ _ _ _ 0x9400 (by decide)
theorem aluM010001 (e : BitVec 2) (d : Dest) (j : Jump) : Statement (.aluM010001 e d j) := computation_row _ _ _ _ _ 0x9440 (by decide)
theorem aluM010010 (e : BitVec 2) (d : Dest) (j : Jump) : Statement (.aluM010010 e d j) := computation_row _ _ _ _ _ 0x9480 (by decide)
theorem aluM010100 (e : BitVec 2) (d : Dest) (j : Jump) : Statement (.aluM010100 e d j) := computation_row _ _ _ _ _ 0x9500 (by decide)
theorem aluM010110 (e : BitVec 2) (d : Dest) (j : Jump) : Statement (.aluM010110 e d j) := computation_row _ _ _ _ _ 0x9580 (by decide)
theorem aluM010111 (e : BitVec 2) (d : Dest) (j : Jump) : Statement (.aluM010111 e d j) := computation_row _ _ _ _ _ 0x95C0 (by decide)
theorem aluM011000 (e : BitVec 2) (d : Dest) (j : Jump) : Statement (.aluM011000 e d j) := computation_row _ _ _ _ _ 0x9600 (by decide)
theorem aluM011001 (e : BitVec 2) (d : Dest) (j : Jump) : Statement (.aluM011001 e d j) := computation_row _ _ _ _ _ 0x9640 (by decide)
theorem aluM011010 (e : BitVec 2) (d : Dest) (j : Jump) : Statement (.aluM011010 e d j) := computation_row _ _ _ _ _ 0x9680 (by decide)
theorem aluM011011 (e : BitVec 2) (d : Dest) (j : Jump) : Statement (.aluM011011 e d j) := computation_row _ _ _ _ _ 0x96C0 (by decide)
theorem aluM011100 (e : BitVec 2) (d : Dest) (j : Jump) : Statement (.aluM011100 e d j) := computation_row _ _ _ _ _ 0x9700 (by decide)
theorem aluM011101 (e : BitVec 2) (d : Dest) (j : Jump) : Statement (.aluM011101 e d j) := computation_row _ _ _ _ _ 0x9740 (by decide)
theorem aluM011110 (e : BitVec 2) (d : Dest) (j : Jump) : Statement (.aluM011110 e d j) := computation_row _ _ _ _ _ 0x9780 (by decide)
theorem aluM011111 (e : BitVec 2) (d : Dest) (j : Jump) : Statement (.aluM011111 e d j) := computation_row _ _ _ _ _ 0x97C0 (by decide)
theorem aluM100000 (e : BitVec 2) (d : Dest) (j : Jump) : Statement (.aluM100000 e d j) := computation_row _ _ _ _ _ 0x9800 (by decide)
theorem aluM100001 (e : BitVec 2) (d : Dest) (j : Jump) : Statement (.aluM100001 e d j) := computation_row _ _ _ _ _ 0x9840 (by decide)
theorem aluM100010 (e : BitVec 2) (d : Dest) (j : Jump) : Statement (.aluM100010 e d j) := computation_row _ _ _ _ _ 0x9880 (by decide)
theorem aluM100011 (e : BitVec 2) (d : Dest) (j : Jump) : Statement (.aluM100011 e d j) := computation_row _ _ _ _ _ 0x98C0 (by decide)
theorem aluM100100 (e : BitVec 2) (d : Dest) (j : Jump) : Statement (.aluM100100 e d j) := computation_row _ _ _ _ _ 0x9900 (by decide)
theorem aluM100101 (e : BitVec 2) (d : Dest) (j : Jump) : Statement (.aluM100101 e d j) := computation_row _ _ _ _ _ 0x9940 (by decide)
theorem aluM100110 (e : BitVec 2) (d : Dest) (j : Jump) : Statement (.aluM100110 e d j) := computation_row _ _ _ _ _ 0x9980 (by decide)
theorem aluM100111 (e : BitVec 2) (d : Dest) (j : Jump) : Statement (.aluM100111 e d j) := computation_row _ _ _ _ _ 0x99C0 (by decide)
theorem aluM101000 (e : BitVec 2) (d : Dest) (j : Jump) : Statement (.aluM101000 e d j) := computation_row _ _ _ _ _ 0x9A00 (by decide)
theorem aluM101001 (e : BitVec 2) (d : Dest) (j : Jump) : Statement (.aluM101001 e d j) := computation_row _ _ _ _ _ 0x9A40 (by decide)
theorem aluM101010 (e : BitVec 2) (d : Dest) (j : Jump) : Statement (.aluM101010 e d j) := computation_row _ _ _ _ _ 0x9A80 (by decide)
theorem aluM101011 (e : BitVec 2) (d : Dest) (j : Jump) : Statement (.aluM101011 e d j) := computation_row _ _ _ _ _ 0x9AC0 (by decide)
theorem aluM101100 (e : BitVec 2) (d : Dest) (j : Jump) : Statement (.aluM101100 e d j) := computation_row _ _ _ _ _ 0x9B00 (by decide)
theorem aluM101101 (e : BitVec 2) (d : Dest) (j : Jump) : Statement (.aluM101101 e d j) := computation_row _ _ _ _ _ 0x9B40 (by decide)
theorem aluM101110 (e : BitVec 2) (d : Dest) (j : Jump) : Statement (.aluM101110 e d j) := computation_row _ _ _ _ _ 0x9B80 (by decide)
theorem aluM101111 (e : BitVec 2) (d : Dest) (j : Jump) : Statement (.aluM101111 e d j) := computation_row _ _ _ _ _ 0x9BC0 (by decide)
theorem aluM110100 (e : BitVec 2) (d : Dest) (j : Jump) : Statement (.aluM110100 e d j) := computation_row _ _ _ _ _ 0x9D00 (by decide)
theorem aluM110101 (e : BitVec 2) (d : Dest) (j : Jump) : Statement (.aluM110101 e d j) := computation_row _ _ _ _ _ 0x9D40 (by decide)
theorem aluM110110 (e : BitVec 2) (d : Dest) (j : Jump) : Statement (.aluM110110 e d j) := computation_row _ _ _ _ _ 0x9D80 (by decide)
theorem aluM111000 (e : BitVec 2) (d : Dest) (j : Jump) : Statement (.aluM111000 e d j) := computation_row _ _ _ _ _ 0x9E00 (by decide)
theorem aluM111001 (e : BitVec 2) (d : Dest) (j : Jump) : Statement (.aluM111001 e d j) := computation_row _ _ _ _ _ 0x9E40 (by decide)
theorem aluM111010 (e : BitVec 2) (d : Dest) (j : Jump) : Statement (.aluM111010 e d j) := computation_row _ _ _ _ _ 0x9E80 (by decide)
theorem aluM111011 (e : BitVec 2) (d : Dest) (j : Jump) : Statement (.aluM111011 e d j) := computation_row _ _ _ _ _ 0x9EC0 (by decide)
theorem aluM111100 (e : BitVec 2) (d : Dest) (j : Jump) : Statement (.aluM111100 e d j) := computation_row _ _ _ _ _ 0x9F00 (by decide)
theorem aluM111101 (e : BitVec 2) (d : Dest) (j : Jump) : Statement (.aluM111101 e d j) := computation_row _ _ _ _ _ 0x9F40 (by decide)
theorem aluM111110 (e : BitVec 2) (d : Dest) (j : Jump) : Statement (.aluM111110 e d j) := computation_row _ _ _ _ _ 0x9F80 (by decide)
theorem aluM111111 (e : BitVec 2) (d : Dest) (j : Jump) : Statement (.aluM111111 e d j) := computation_row _ _ _ _ _ 0x9FC0 (by decide)
theorem destNone (e : BitVec 2) (a : Bool) (c : BitVec 6) (j : Jump) : Statement (.destNone e a c j) := dest_row _ _ _ _ _ 0x8000 (by decide)
theorem destM (e : BitVec 2) (a : Bool) (c : BitVec 6) (j : Jump) : Statement (.destM e a c j) := dest_row _ _ _ _ _ 0x8008 (by decide)
theorem destD (e : BitVec 2) (a : Bool) (c : BitVec 6) (j : Jump) : Statement (.destD e a c j) := dest_row _ _ _ _ _ 0x8010 (by decide)
theorem destMD (e : BitVec 2) (a : Bool) (c : BitVec 6) (j : Jump) : Statement (.destMD e a c j) := dest_row _ _ _ _ _ 0x8018 (by decide)
theorem destA (e : BitVec 2) (a : Bool) (c : BitVec 6) (j : Jump) : Statement (.destA e a c j) := dest_row _ _ _ _ _ 0x8020 (by decide)
theorem destAM (e : BitVec 2) (a : Bool) (c : BitVec 6) (j : Jump) : Statement (.destAM e a c j) := dest_row _ _ _ _ _ 0x8028 (by decide)
theorem destAD (e : BitVec 2) (a : Bool) (c : BitVec 6) (j : Jump) : Statement (.destAD e a c j) := dest_row _ _ _ _ _ 0x8030 (by decide)
theorem destAMD (e : BitVec 2) (a : Bool) (c : BitVec 6) (j : Jump) : Statement (.destAMD e a c j) := dest_row _ _ _ _ _ 0x8038 (by decide)
theorem jumpNone (e : BitVec 2) (a : Bool) (c : BitVec 6) (d : Dest) : Statement (.jumpNone e a c d) := jump_row _ _ _ _ _ 0x8000 (by decide)
theorem jumpJGT (e : BitVec 2) (a : Bool) (c : BitVec 6) (d : Dest) : Statement (.jumpJGT e a c d) := jump_row _ _ _ _ _ 0x8001 (by decide)
theorem jumpJEQ (e : BitVec 2) (a : Bool) (c : BitVec 6) (d : Dest) : Statement (.jumpJEQ e a c d) := jump_row _ _ _ _ _ 0x8002 (by decide)
theorem jumpJGE (e : BitVec 2) (a : Bool) (c : BitVec 6) (d : Dest) : Statement (.jumpJGE e a c d) := jump_row _ _ _ _ _ 0x8003 (by decide)
theorem jumpJLT (e : BitVec 2) (a : Bool) (c : BitVec 6) (d : Dest) : Statement (.jumpJLT e a c d) := jump_row _ _ _ _ _ 0x8004 (by decide)
theorem jumpJNE (e : BitVec 2) (a : Bool) (c : BitVec 6) (d : Dest) : Statement (.jumpJNE e a c d) := jump_row _ _ _ _ _ 0x8005 (by decide)
theorem jumpJLE (e : BitVec 2) (a : Bool) (c : BitVec 6) (d : Dest) : Statement (.jumpJLE e a c d) := jump_row _ _ _ _ _ 0x8006 (by decide)
theorem jumpJMP (e : BitVec 2) (a : Bool) (c : BitVec 6) (d : Dest) : Statement (.jumpJMP e a c d) := jump_row _ _ _ _ _ 0x8007 (by decide)
theorem mulDA (ign : BitVec 6) (d : Dest) (j : Jump) : Statement (.mulDA ign d j) := extended_row _ _ _ _ _ 0xF000 0x8000 (by decide)
  (by revert ign; decide)
theorem mulDM (ign : BitVec 6) (d : Dest) (j : Jump) : Statement (.mulDM ign d j) := extended_row _ _ _ _ _ 0xF000 0x9000 (by decide)
  (by revert ign; decide)
theorem shlA (ign : BitVec 4) (d : Dest) (j : Jump) : Statement (.shlA ign d j) := extended_row _ _ _ _ _ 0xFC00 0xA800 (by decide)
  (by revert ign; decide)
theorem shlD (a : Bool) (ign : BitVec 4) (d : Dest) (j : Jump) : Statement (.shlD a ign d j) := extended_row _ _ _ _ _ 0xEC00 0xAC00 (by decide)
  (by revert a ign; decide)
theorem shlM (ign : BitVec 4) (d : Dest) (j : Jump) : Statement (.shlM ign d j) := extended_row _ _ _ _ _ 0xFC00 0xB800 (by decide)
  (by revert ign; decide)
theorem shrA (ign : BitVec 4) (d : Dest) (j : Jump) : Statement (.shrA ign d j) := extended_row _ _ _ _ _ 0xFC00 0xA000 (by decide)
  (by revert ign; decide)
theorem shrD (a : Bool) (ign : BitVec 4) (d : Dest) (j : Jump) : Statement (.shrD a ign d j) := extended_row _ _ _ _ _ 0xEC00 0xA400 (by decide)
  (by revert a ign; decide)
theorem shrM (ign : BitVec 4) (d : Dest) (j : Jump) : Statement (.shrM ign d j) := extended_row _ _ _ _ _ 0xFC00 0xB000 (by decide)
  (by revert ign; decide)
theorem mulDAAlias (ign : BitVec 6) (d : Dest) (j : Jump) : Statement (.mulDAAlias ign d j) := extended_row _ _ _ _ _ 0xF000 0xC000 (by decide)
  (by revert ign; decide)
theorem mulDMAlias (ign : BitVec 6) (d : Dest) (j : Jump) : Statement (.mulDMAlias ign d j) := extended_row _ _ _ _ _ 0xF000 0xD000 (by decide)
  (by revert ign; decide)
theorem shrALo5 (ign : BitVec 5) (d : Dest) (j : Jump) : Statement (.shrALo5 ign d j) := extended_row _ _ _ _ _ 0xF800 0xA000 (by decide)
  (by revert ign; decide)
theorem shrDLo5 (ign : BitVec 5) (d : Dest) (j : Jump) : Statement (.shrDLo5 ign d j) := extended_row _ _ _ _ _ 0xF800 0xA800 (by decide)
  (by revert ign; decide)
theorem shlMLo5 (ign : BitVec 5) (d : Dest) (j : Jump) : Statement (.shlMLo5 ign d j) := extended_row _ _ _ _ _ 0xF800 0xB000 (by decide)
  (by revert ign; decide)
theorem shlDLo5 (ign : BitVec 5) (d : Dest) (j : Jump) : Statement (.shlDLo5 ign d j) := extended_row _ _ _ _ _ 0xF800 0xB800 (by decide)
  (by revert ign; decide)
theorem standardPath (a : Bool) (c : BitVec 6) (d : Dest) (j : Jump) : Statement (.standardPath a c d j) := extended_row _ _ _ _ _ 0xE000 0xE000 (by decide)
  (by revert a c; decide)

end Sys2Proof.Laws.Encoding
end

