-- ==== Sys2Proof/Laws/State.lean ====
section
/-! SUPPORT. What each named update of the state does to each field, so that no later proof unfolds a record update. -/

namespace Sys2Proof.Machine

variable (s : State) (v : Word) (taken : Bool) (d : Dest) (j : Jump) (out : Word) (k : Addr)

/-! ### `State.loadA` -/

@[simp] theorem State.loadA_a : (s.loadA v).a = v := rfl
@[simp] theorem State.loadA_d : (s.loadA v).d = s.d := rfl
@[simp] theorem State.loadA_pc : (s.loadA v).pc = s.pc := rfl
@[simp] theorem State.loadA_unset : (s.loadA v).unset = { s.unset with a := false } := rfl
@[simp] theorem State.loadA_mem : (s.loadA v).mem = s.mem := rfl
@[simp] theorem State.loadA_rom : (s.loadA v).rom = s.rom := rfl
@[simp] theorem State.loadA_params : (s.loadA v).params = s.params := rfl
@[simp] theorem State.loadA_resetIn : (s.loadA v).resetIn = s.resetIn := rfl
@[simp] theorem State.loadA_draws : (s.loadA v).draws = s.draws := rfl
@[simp] theorem State.loadA_events : (s.loadA v).events = s.events := rfl

/-! ### `State.loadD` -/

@[simp] theorem State.loadD_a : (s.loadD v).a = s.a := rfl
@[simp] theorem State.loadD_d : (s.loadD v).d = v := rfl
@[simp] theorem State.loadD_pc : (s.loadD v).pc = s.pc := rfl
@[simp] theorem State.loadD_unset : (s.loadD v).unset = { s.unset with d := false } := rfl
@[simp] theorem State.loadD_mem : (s.loadD v).mem = s.mem := rfl
@[simp] theorem State.loadD_rom : (s.loadD v).rom = s.rom := rfl
@[simp] theorem State.loadD_params : (s.loadD v).params = s.params := rfl
@[simp] theorem State.loadD_resetIn : (s.loadD v).resetIn = s.resetIn := rfl
@[simp] theorem State.loadD_draws : (s.loadD v).draws = s.draws := rfl
@[simp] theorem State.loadD_events : (s.loadD v).events = s.events := rfl

/-! ### `State.advance` -/

@[simp] theorem State.advance_a : (s.advance taken).a = s.a := rfl
@[simp] theorem State.advance_d : (s.advance taken).d = s.d := rfl
@[simp] theorem State.advance_pc : (s.advance taken).pc = nextPc s taken := rfl
@[simp] theorem State.advance_unset : (s.advance taken).unset = s.unset := rfl
@[simp] theorem State.advance_mem : (s.advance taken).mem = s.mem := rfl
@[simp] theorem State.advance_rom : (s.advance taken).rom = s.rom := rfl
@[simp] theorem State.advance_params : (s.advance taken).params = s.params := rfl
@[simp] theorem State.advance_resetIn : (s.advance taken).resetIn = s.resetIn.tail := rfl
@[simp] theorem State.advance_draws : (s.advance taken).draws = s.draws := rfl
@[simp] theorem State.advance_events : (s.advance taken).events = s.events := rfl

/-! ### `State.readM` -/

@[simp] theorem State.readM_a : (s.readM).a = s.a := by unfold State.readM; split <;> rfl
@[simp] theorem State.readM_d : (s.readM).d = s.d := by unfold State.readM; split <;> rfl
@[simp] theorem State.readM_pc : (s.readM).pc = s.pc := by unfold State.readM; split <;> rfl
@[simp] theorem State.readM_unset : (s.readM).unset = s.unset := by unfold State.readM; split <;> rfl
@[simp] theorem State.readM_mem : (s.readM).mem = s.mem := by unfold State.readM; split <;> rfl
@[simp] theorem State.readM_rom : (s.readM).rom = s.rom := by unfold State.readM; split <;> rfl
@[simp] theorem State.readM_params : (s.readM).params = s.params := by unfold State.readM; split <;> rfl
@[simp] theorem State.readM_resetIn : (s.readM).resetIn = s.resetIn := by unfold State.readM; split <;> rfl
@[simp] theorem State.readM_draws : (s.readM).draws = if s.backed s.addressM then s.draws else s.draws + 1 := by unfold State.readM; split <;> rfl
@[simp] theorem State.readM_events : (s.readM).events = if s.backed s.addressM then s.events else .read s.addressM :: s.events := by unfold State.readM; split <;> rfl

/-! ### `State.writeM` -/

@[simp] theorem State.writeM_a : (s.writeM v).a = s.a := by unfold State.writeM; split <;> rfl
@[simp] theorem State.writeM_d : (s.writeM v).d = s.d := by unfold State.writeM; split <;> rfl
@[simp] theorem State.writeM_pc : (s.writeM v).pc = s.pc := by unfold State.writeM; split <;> rfl
@[simp] theorem State.writeM_unset : (s.writeM v).unset = s.unset := by unfold State.writeM; split <;> rfl
@[simp] theorem State.writeM_mem : (s.writeM v).mem = if s.backed s.addressM then Memory.store s.params.initPolicy s.mem s.addressM.toNat v else s.mem := by unfold State.writeM; split <;> rfl
@[simp] theorem State.writeM_rom : (s.writeM v).rom = s.rom := by unfold State.writeM; split <;> rfl
@[simp] theorem State.writeM_params : (s.writeM v).params = s.params := by unfold State.writeM; split <;> rfl
@[simp] theorem State.writeM_resetIn : (s.writeM v).resetIn = s.resetIn := by unfold State.writeM; split <;> rfl
@[simp] theorem State.writeM_draws : (s.writeM v).draws = s.draws := by unfold State.writeM; split <;> rfl
@[simp] theorem State.writeM_events : (s.writeM v).events = if s.backed s.addressM then s.events else .write s.addressM v :: s.events := by unfold State.writeM; split <;> rfl

/-! ### Values read through an update -/

@[simp] theorem State.advance_addressM : (s.advance taken).addressM = s.addressM := rfl
@[simp] theorem State.loadD_addressM : (s.loadD v).addressM = s.addressM := rfl
@[simp] theorem State.readM_addressM : s.readM.addressM = s.addressM := by simp [State.addressM]
@[simp] theorem State.writeM_addressM : (s.writeM v).addressM = s.addressM := by simp [State.addressM]
@[simp] theorem State.readM_backed : s.readM.backed k = s.backed k := by simp [State.backed]
@[simp] theorem State.writeM_backed : (s.writeM v).backed k = s.backed k := by simp [State.backed]
@[simp] theorem State.readM_cell : s.readM.cell k = s.cell k := by simp [State.cell]
@[simp] theorem State.readM_resetNow : s.readM.resetNow = s.resetNow := by simp [State.resetNow]
@[simp] theorem State.writeM_resetNow : (s.writeM v).resetNow = s.resetNow := by simp [State.resetNow]
@[simp] theorem readM_nextPc : nextPc s.readM taken = nextPc s taken := by simp [nextPc]
@[simp] theorem writeM_nextPc : nextPc (s.writeM v) taken = nextPc s taken := by simp [nextPc]

/-! ### `commit` -/

@[simp] theorem commit_a : (commit d j out s).a = if d.toA then out else s.a := by
  simp only [commit]; repeat' split
  all_goals simp_all
@[simp] theorem commit_d : (commit d j out s).d = if d.toD then out else s.d := by
  simp only [commit]; repeat' split
  all_goals simp_all
@[simp] theorem commit_pc : (commit d j out s).pc = nextPc s (jumpTaken j out) := by
  simp only [commit]; repeat' split
  all_goals simp_all
@[simp] theorem commit_unset : (commit d j out s).unset =
    { a := s.unset.a && !d.toA, d := s.unset.d && !d.toD, pc := s.unset.pc } := by
  simp only [commit]; repeat' split
  all_goals simp_all
@[simp] theorem commit_mem : (commit d j out s).mem = if d.toM && s.backed s.addressM then
    Memory.store s.params.initPolicy s.mem s.addressM.toNat out else s.mem := by
  simp only [commit]; repeat' split
  all_goals simp_all
@[simp] theorem commit_rom : (commit d j out s).rom = s.rom := by
  simp only [commit]; repeat' split
  all_goals simp_all
@[simp] theorem commit_params : (commit d j out s).params = s.params := by
  simp only [commit]; repeat' split
  all_goals simp_all
@[simp] theorem commit_resetIn : (commit d j out s).resetIn = s.resetIn.tail := by
  simp only [commit]; repeat' split
  all_goals simp_all
@[simp] theorem commit_draws : (commit d j out s).draws = s.draws := by
  simp only [commit]; repeat' split
  all_goals simp_all
@[simp] theorem commit_events : (commit d j out s).events =
    if d.toM && !s.backed s.addressM then .write s.addressM out :: s.events else s.events := by
  simp only [commit]; repeat' split
  all_goals simp_all

/-! ### `traceC` -/

@[simp] theorem traceC_a (f : CFields) : (traceC f s).a = s.a := by unfold traceC; split <;> simp
@[simp] theorem traceC_d (f : CFields) : (traceC f s).d = s.d := by unfold traceC; split <;> simp
@[simp] theorem traceC_pc (f : CFields) : (traceC f s).pc = s.pc := by unfold traceC; split <;> simp
@[simp] theorem traceC_unset (f : CFields) : (traceC f s).unset = s.unset := by unfold traceC; split <;> simp
@[simp] theorem traceC_mem (f : CFields) : (traceC f s).mem = s.mem := by unfold traceC; split <;> simp
@[simp] theorem traceC_rom (f : CFields) : (traceC f s).rom = s.rom := by unfold traceC; split <;> simp
@[simp] theorem traceC_params (f : CFields) : (traceC f s).params = s.params := by unfold traceC; split <;> simp
@[simp] theorem traceC_resetIn (f : CFields) : (traceC f s).resetIn = s.resetIn := by unfold traceC; split <;> simp
@[simp] theorem traceC_addressM (f : CFields) : (traceC f s).addressM = s.addressM := by simp [State.addressM]
@[simp] theorem traceC_backed (f : CFields) : (traceC f s).backed k = s.backed k := by simp [State.backed]
@[simp] theorem traceC_cell (f : CFields) : (traceC f s).cell k = s.cell k := by simp [State.cell]
@[simp] theorem traceC_nextPc (f : CFields) : nextPc (traceC f s) taken = nextPc s taken := by
  unfold traceC; split <;> simp

end Sys2Proof.Machine
end

