-- ==== Sys2Proof/Laws/Tick.lean ====
section
/-! SUPPORT. What a tick can do, said once: the meaning of an instruction by its format, and the cases of a step. -/

namespace Sys2Proof.Machine

/-- Every meaning is the tick of its format on the row's fields. -/
theorem exec_eq (i : Instr) (s : State) : exec i s =
    match i.format with
    | .aInstr v => execLiteral v s
    | .cInstr f => execC f s := by
  cases i <;> rfl

theorem exec_of_cInstr {i : Instr} {f : CFields} (h : i.format = .cInstr f) (s : State) : exec i s = execC f s := by
  rw [exec_eq, h]

theorem exec_of_aInstr {i : Instr} {v : BitVec 15} (h : i.format = .aInstr v) (s : State) :
    exec i s = execLiteral v s := by
  rw [exec_eq, h]

/-- A C-instruction answers a next state exactly when it has no fault, and then this one. -/
theorem execC_next {f : CFields} {s t : State} : execC f s = .next t ↔
    faultC f s = none ∧ t = commit f.d f.j (resultC f s) (traceC f s) := by
  cases h : faultC f s with
  | none => simp [execC, h, eq_comm]
  | some r => simp [execC, h]

theorem execC_fault {f : CFields} {s : State} {r : Fault} : execC f s = .fault r ↔ faultC f s = some r := by
  cases h : faultC f s with
  | none => simp [execC, h]
  | some r => simp [execC, h]

theorem execLiteral_next {v : BitVec 15} {s t : State} : execLiteral v s = .next t ↔
    s.unset.pc = false ∧ t = (s.advance false).loadA (v.setWidth 16) := by
  cases h : s.unset.pc <;> simp [execLiteral, h, eq_comm]

/-- A next state of an instruction is the end of an A-instruction's or of a C-instruction's tick. -/
theorem exec_next_cases {i : Instr} {s t : State} (h : exec i s = .next t) : s.unset.pc = false ∧
    ((∃ v, i.format = .aInstr v ∧ t = (s.advance false).loadA (v.setWidth 16)) ∨
      ∃ f, i.format = .cInstr f ∧ faultC f s = none ∧ t = commit f.d f.j (resultC f s) (traceC f s)) := by
  cases hf : i.format with
  | aInstr v =>
    rw [exec_of_aInstr hf, execLiteral_next] at h
    exact ⟨h.1, .inl ⟨v, rfl, h.2⟩⟩
  | cInstr f =>
    rw [exec_of_cInstr hf, execC_next] at h
    refine ⟨?_, .inr ⟨f, rfl, h⟩⟩
    cases hp : s.unset.pc with
    | false => rfl
    | true => simp [faultC, hp] at h

/-- A step that answers a next state fetched a word and ran the instruction decoded from it. -/
theorem step_next_cases {s t : State} (h : step s = .next t) :
    ∃ w, Memory.lookup s.rom s.pc.toNat = some w ∧ exec (decode s.params w) s = .next t := by
  unfold step fetch at h
  split at h
  · simp at h
  · rename_i w hw
    split at hw
    · simp at hw
    · split at hw
      · cases hw; exact ⟨w, by assumption, h⟩
      · simp at hw

/-- No instruction is refused. -/
theorem exec_not_refused (i : Instr) (s : State) (r : Refusal) : exec i s ≠ .refused r := by
  rw [exec_eq]
  split
  · unfold execLiteral; split <;> simp
  · unfold execC; split <;> simp

/-- When A is needed as an address or a target: a store, or a jump taken in a tick without `reset`. -/
theorem needsTarget_eq_true {d : Dest} {j : Jump} {out : Word} {s : State} : needsTarget d j out s = true ↔
    d.toM = true ∨ jumpTaken j out = true ∧ s.resetNow = false := by
  simp [needsTarget]

/-- A jump overridden by `reset` needs no target. -/
theorem needsTarget_of_reset {s : State} (h : s.resetNow = true) (d : Dest) (j : Jump) (out : Word) :
    needsTarget d j out s = d.toM := by
  simp [needsTarget, h]

/-- A C-instruction has no fault exactly when every value it needs is there. -/
theorem State.ready_eq (f : CFields) (s : State) : s.ready f = (faultC f s).isNone := by
  simp only [State.ready, State.computable, State.targetReady, faultC]
  cases s.unset.pc <;> cases needsX s.params f <;> cases s.unset.d <;> cases needsY s.params f <;> cases s.unset.a <;>
    cases readsM s.params f <;> cases s.dataWord <;> cases needsTarget f.d f.j (resultC f s) s <;> rfl

/-- A C-instruction that has all it needs completes, and this is how. -/
theorem exec_of_ready {i : Instr} {f : CFields} {s : State} (h : i.format = .cInstr f) (hr : s.ready f = true) :
    exec i s = .next (commit f.d f.j (resultC f s) (traceC f s)) := by
  rw [exec_of_cInstr h, execC_next]
  rw [State.ready_eq, Option.isNone_iff_eq_none] at hr
  exact ⟨hr, rfl⟩

/-- The cells after a store at the address in A: the stored word there, every other cell as before. -/
theorem State.cell_of_store {s t : State} {v : Word} (hp : t.params = s.params)
    (hm : t.mem = Memory.store s.params.initPolicy s.mem s.addressM.toNat v) (k : Addr) :
    t.cell k = if s.addressM = k then some v else s.cell k := by
  have h := Memory.lookup_store s.params.initPolicy s.mem s.addressM.toNat k.toNat v
  simp only [show (s.addressM.toNat = k.toNat) ↔ s.addressM = k from BitVec.toNat_inj] at h
  simp only [State.cell, hp, hm]
  revert h
  cases Memory.lookup (Memory.store s.params.initPolicy s.mem s.addressM.toNat v) k.toNat <;>
    cases Memory.lookup s.mem k.toNat <;> simp_all

end Sys2Proof.Machine
end

