-- ==== Sys2Proof/Tests/Slice0.lean ====
section
/-! SUPPORT. Tests. Every expected value is copied from spec/95_test_vectors.md, or from the tables and worked examples
named at the test. -/

namespace Sys2Proof.Machine.Test

/-! ### Decoding: words written out from the encodings of 30_encoding.md R92, R94, R99, R102 -/

/-- Standard parameters with every element at 0 before it is written. -/
def std : Params := { Params.default with initPolicy := .zero }

/-- The Extended variant, selector B at its default place. -/
def ext4 : Params := { std with variant := .extended }

/-- The Extended variant with `EXT_SELB_LO = 5`. -/
def ext5 : Params := { ext4 with extSelBLo := .five }

/-- No destination. -/
def d0 : Dest := ⟨false, false, false⟩

/-- No jump. -/
def j0 : Jump := ⟨false, false, false⟩

/-- Each word is decoded to its instruction, and the instruction is encoded as the word. -/
def agree (p : Params) (l : List (Word × Instr)) : Bool :=
  l.all fun c => decode p c.1 == c.2 && encode c.2 == c.1

/-- Each word has the row among its readings, and the row is encoded as the word. -/
def agreeReading (p : Params) (l : List (Word × Instr)) : Bool :=
  l.all fun c => (readings p c.1).contains c.2 && encode c.2 == c.1

-- `@5` and `@32767` (R107, 95_test_vectors.md V8)
theorem test_decode_literal : agree std [(0b0000000000000101#16, .atValue 5), (0x7FFF#16, .atValue 32767)] := by decide

-- the canonical words of R99
theorem test_decode_named_0 : agree std
  [(0xEA80#16, .zero 3 d0 j0),
   (0xEFC0#16, .one 3 d0 j0),
   (0xEE80#16, .negOne 3 d0 j0),
   (0xE300#16, .copyD 3 d0 j0),
   (0xEC00#16, .copyA 3 d0 j0),
   (0xE340#16, .notD 3 d0 j0),
   (0xEC40#16, .notA 3 d0 j0),
   (0xE3C0#16, .negD 3 d0 j0),
   (0xECC0#16, .negA 3 d0 j0),
   (0xE7C0#16, .incD 3 d0 j0),
   (0xEDC0#16, .incA 3 d0 j0),
   (0xE380#16, .decD 3 d0 j0),
   (0xEC80#16, .decA 3 d0 j0),
   (0xE080#16, .addDA 3 d0 j0)] := by
  decide

theorem test_decode_named_1 : agree std
  [(0xE4C0#16, .subDA 3 d0 j0),
   (0xE1C0#16, .subAD 3 d0 j0),
   (0xE000#16, .andDA 3 d0 j0),
   (0xE540#16, .orDA 3 d0 j0),
   (0xFC00#16, .copyM 3 d0 j0),
   (0xFC40#16, .notM 3 d0 j0),
   (0xFCC0#16, .negM 3 d0 j0),
   (0xFDC0#16, .incM 3 d0 j0),
   (0xFC80#16, .decM 3 d0 j0),
   (0xF080#16, .addDM 3 d0 j0),
   (0xF4C0#16, .subDM 3 d0 j0),
   (0xF1C0#16, .subMD 3 d0 j0),
   (0xF000#16, .andDM 3 d0 j0),
   (0xF540#16, .orDM 3 d0 j0)] := by
  decide

-- the unnamed codes of R299: `1 11 a cccccc 000 000`
theorem test_decode_unnamed_0 : agree std
  [(0b1110000001000000#16, .aluA000001 3 d0 j0),
   (0b1110000011000000#16, .aluA000011 3 d0 j0),
   (0b1110000100000000#16, .aluA000100 3 d0 j0),
   (0b1110000101000000#16, .aluA000101 3 d0 j0),
   (0b1110000110000000#16, .aluA000110 3 d0 j0),
   (0b1110001000000000#16, .aluA001000 3 d0 j0),
   (0b1110001001000000#16, .aluA001001 3 d0 j0),
   (0b1110001010000000#16, .aluA001010 3 d0 j0),
   (0b1110001011000000#16, .aluA001011 3 d0 j0),
   (0b1110010000000000#16, .aluA010000 3 d0 j0),
   (0b1110010001000000#16, .aluA010001 3 d0 j0),
   (0b1110010010000000#16, .aluA010010 3 d0 j0),
   (0b1110010100000000#16, .aluA010100 3 d0 j0),
   (0b1110010110000000#16, .aluA010110 3 d0 j0),
   (0b1110010111000000#16, .aluA010111 3 d0 j0),
   (0b1110011000000000#16, .aluA011000 3 d0 j0),
   (0b1110011001000000#16, .aluA011001 3 d0 j0),
   (0b1110011010000000#16, .aluA011010 3 d0 j0),
   (0b1110011011000000#16, .aluA011011 3 d0 j0),
   (0b1110011100000000#16, .aluA011100 3 d0 j0)] := by
  decide

theorem test_decode_unnamed_1 : agree std
  [(0b1110011101000000#16, .aluA011101 3 d0 j0),
   (0b1110011110000000#16, .aluA011110 3 d0 j0),
   (0b1110100000000000#16, .aluA100000 3 d0 j0),
   (0b1110100001000000#16, .aluA100001 3 d0 j0),
   (0b1110100010000000#16, .aluA100010 3 d0 j0),
   (0b1110100011000000#16, .aluA100011 3 d0 j0),
   (0b1110100100000000#16, .aluA100100 3 d0 j0),
   (0b1110100101000000#16, .aluA100101 3 d0 j0),
   (0b1110100110000000#16, .aluA100110 3 d0 j0),
   (0b1110100111000000#16, .aluA100111 3 d0 j0),
   (0b1110101000000000#16, .aluA101000 3 d0 j0),
   (0b1110101001000000#16, .aluA101001 3 d0 j0),
   (0b1110101011000000#16, .aluA101011 3 d0 j0),
   (0b1110101100000000#16, .aluA101100 3 d0 j0),
   (0b1110101101000000#16, .aluA101101 3 d0 j0),
   (0b1110101110000000#16, .aluA101110 3 d0 j0),
   (0b1110101111000000#16, .aluA101111 3 d0 j0),
   (0b1110110100000000#16, .aluA110100 3 d0 j0),
   (0b1110110101000000#16, .aluA110101 3 d0 j0),
   (0b1110110110000000#16, .aluA110110 3 d0 j0)] := by
  decide

theorem test_decode_unnamed_2 : agree std
  [(0b1110111000000000#16, .aluA111000 3 d0 j0),
   (0b1110111001000000#16, .aluA111001 3 d0 j0),
   (0b1110111011000000#16, .aluA111011 3 d0 j0),
   (0b1110111100000000#16, .aluA111100 3 d0 j0),
   (0b1110111101000000#16, .aluA111101 3 d0 j0),
   (0b1110111110000000#16, .aluA111110 3 d0 j0),
   (0b1111000001000000#16, .aluM000001 3 d0 j0),
   (0b1111000011000000#16, .aluM000011 3 d0 j0),
   (0b1111000100000000#16, .aluM000100 3 d0 j0),
   (0b1111000101000000#16, .aluM000101 3 d0 j0),
   (0b1111000110000000#16, .aluM000110 3 d0 j0),
   (0b1111001000000000#16, .aluM001000 3 d0 j0),
   (0b1111001001000000#16, .aluM001001 3 d0 j0),
   (0b1111001010000000#16, .aluM001010 3 d0 j0),
   (0b1111001011000000#16, .aluM001011 3 d0 j0),
   (0b1111001100000000#16, .aluM001100 3 d0 j0),
   (0b1111001101000000#16, .aluM001101 3 d0 j0),
   (0b1111001110000000#16, .aluM001110 3 d0 j0),
   (0b1111001111000000#16, .aluM001111 3 d0 j0),
   (0b1111010000000000#16, .aluM010000 3 d0 j0)] := by
  decide

theorem test_decode_unnamed_3 : agree std
  [(0b1111010001000000#16, .aluM010001 3 d0 j0),
   (0b1111010010000000#16, .aluM010010 3 d0 j0),
   (0b1111010100000000#16, .aluM010100 3 d0 j0),
   (0b1111010110000000#16, .aluM010110 3 d0 j0),
   (0b1111010111000000#16, .aluM010111 3 d0 j0),
   (0b1111011000000000#16, .aluM011000 3 d0 j0),
   (0b1111011001000000#16, .aluM011001 3 d0 j0),
   (0b1111011010000000#16, .aluM011010 3 d0 j0),
   (0b1111011011000000#16, .aluM011011 3 d0 j0),
   (0b1111011100000000#16, .aluM011100 3 d0 j0),
   (0b1111011101000000#16, .aluM011101 3 d0 j0),
   (0b1111011110000000#16, .aluM011110 3 d0 j0),
   (0b1111011111000000#16, .aluM011111 3 d0 j0),
   (0b1111100000000000#16, .aluM100000 3 d0 j0),
   (0b1111100001000000#16, .aluM100001 3 d0 j0),
   (0b1111100010000000#16, .aluM100010 3 d0 j0),
   (0b1111100011000000#16, .aluM100011 3 d0 j0),
   (0b1111100100000000#16, .aluM100100 3 d0 j0),
   (0b1111100101000000#16, .aluM100101 3 d0 j0),
   (0b1111100110000000#16, .aluM100110 3 d0 j0)] := by
  decide

theorem test_decode_unnamed_4 : agree std
  [(0b1111100111000000#16, .aluM100111 3 d0 j0),
   (0b1111101000000000#16, .aluM101000 3 d0 j0),
   (0b1111101001000000#16, .aluM101001 3 d0 j0),
   (0b1111101010000000#16, .aluM101010 3 d0 j0),
   (0b1111101011000000#16, .aluM101011 3 d0 j0),
   (0b1111101100000000#16, .aluM101100 3 d0 j0),
   (0b1111101101000000#16, .aluM101101 3 d0 j0),
   (0b1111101110000000#16, .aluM101110 3 d0 j0),
   (0b1111101111000000#16, .aluM101111 3 d0 j0),
   (0b1111110100000000#16, .aluM110100 3 d0 j0),
   (0b1111110101000000#16, .aluM110101 3 d0 j0),
   (0b1111110110000000#16, .aluM110110 3 d0 j0),
   (0b1111111000000000#16, .aluM111000 3 d0 j0),
   (0b1111111001000000#16, .aluM111001 3 d0 j0),
   (0b1111111010000000#16, .aluM111010 3 d0 j0),
   (0b1111111011000000#16, .aluM111011 3 d0 j0),
   (0b1111111100000000#16, .aluM111100 3 d0 j0),
   (0b1111111101000000#16, .aluM111101 3 d0 j0),
   (0b1111111110000000#16, .aluM111110 3 d0 j0),
   (0b1111111111000000#16, .aluM111111 3 d0 j0)] := by
  decide

-- bits 14 and 13 are ignored by the Standard variant (R98): `0x8010` is `D=D&A`
theorem test_decode_standard_ignores : agree std [(0x8010#16, .andDA 0 ⟨false, true, false⟩ j0)] := by decide

-- the destinations and jumps of R100 and R101 as operands: `D=D+A`, `AM=M+1`, `A=D;JMP`, `0;JMP`
theorem test_decode_fields : agree std
  [(0xE090#16, .addDA 3 ⟨false, true, false⟩ j0), (0xFDE8#16, .incM 3 ⟨true, false, true⟩ j0),
   (0xE327#16, .copyD 3 ⟨true, false, false⟩ ⟨true, true, true⟩), (0xEA87#16, .zero 3 d0 ⟨true, true, true⟩)] := by
  decide

-- the canonical words of R102 and its alias rows
theorem test_decode_extended : agree ext4
  [(0x8000#16, .mulDA 0 d0 j0),
   (0x9000#16, .mulDM 0 d0 j0),
   (0xA000#16, .shrA 0 d0 j0),
   (0xB000#16, .shrM 0 d0 j0),
   (0xA400#16, .shrD false 0 d0 j0),
   (0xB400#16, .shrD true 0 d0 j0),
   (0xA800#16, .shlA 0 d0 j0),
   (0xB800#16, .shlM 0 d0 j0),
   (0xAC00#16, .shlD false 0 d0 j0),
   (0xBC00#16, .shlD true 0 d0 j0),
   (0xC000#16, .mulDAAlias 0 d0 j0),
   (0xD000#16, .mulDMAlias 0 d0 j0),
   (0xE080#16, .addDA 3 d0 j0)] := by
  decide

-- the words of 47_extended.md R351 for `EXT_SELB_LO = 5`
theorem test_decode_extended_lo5 : agree ext5
  [(0xA000#16, .shrALo5 0 d0 j0),
   (0xA800#16, .shrDLo5 0 d0 j0),
   (0xB000#16, .shlMLo5 0 d0 j0),
   (0xB800#16, .shlDLo5 0 d0 j0)] := by
  decide

-- the destination rows on the words of 46_c_dest_jump.md R311 to R318 (`D+1` with each destination)
theorem test_readings_dest : agreeReading std
  [(0xE7C0#16, .destNone 3 false 0b011111 j0),
   (0xE7C8#16, .destM 3 false 0b011111 j0),
   (0xE7D0#16, .destD 3 false 0b011111 j0),
   (0xE7D8#16, .destMD 3 false 0b011111 j0),
   (0xE7E0#16, .destA 3 false 0b011111 j0),
   (0xE7E8#16, .destAM 3 false 0b011111 j0),
   (0xE7F0#16, .destAD 3 false 0b011111 j0),
   (0xE7F8#16, .destAMD 3 false 0b011111 j0)] := by
  decide

-- the jump rows on the words of R321 to R328 (`D` with each jump)
theorem test_readings_jump : agreeReading std
  [(0xE300#16, .jumpNone 3 false 0b001100 d0),
   (0xE301#16, .jumpJGT 3 false 0b001100 d0),
   (0xE302#16, .jumpJEQ 3 false 0b001100 d0),
   (0xE303#16, .jumpJGE 3 false 0b001100 d0),
   (0xE304#16, .jumpJLT 3 false 0b001100 d0),
   (0xE305#16, .jumpJNE 3 false 0b001100 d0),
   (0xE306#16, .jumpJLE 3 false 0b001100 d0),
   (0xE307#16, .jumpJMP 3 false 0b001100 d0)] := by
  decide

-- the standard path of the Extended variant (R350): `D+M`
theorem test_readings_standard_path : agreeReading ext4 [(0xF080#16, .standardPath true 0b000010 d0 j0)] := by decide

/-! ### WellFormed: one term each check refuses -/

-- a computation row with bits 14:13 other than 11 is no instruction of the Extended variant (R106)
theorem test_illformed_computation : Instr.wellFormed ext4 (.incD 0 d0 j0) = false := by decide

-- the multiply rows are no instructions of the Standard variant (R340)
theorem test_illformed_multiply : Instr.wellFormed std (.mulDA 0 d0 j0) = false := by decide

-- the shift rows belong to one value of `EXT_SELB_LO` (R351)
theorem test_illformed_shift4 : Instr.wellFormed ext5 (.shlA 0 d0 j0) = false := by decide
theorem test_illformed_shift5 : Instr.wellFormed ext4 (.shrALo5 0 d0 j0) = false := by decide

/-! ### One step on a small state -/

/-- The state a step answers. -/
def nextOf (o : Host.Outcome State Fault Refusal) : Option State :=
  match o with
  | .next s => some s
  | _ => none

/-- The fault a step answers. -/
def faultOf (o : Host.Outcome State Fault Refusal) : Option Fault :=
  match o with
  | .fault r => some r
  | _ => none

/-- A state with the given registers, cells, parameters, and one word at the PC. -/
def start (p : Params) (a d : Word) (pc : Addr) (mem : Memory) (w : Word) : State :=
  { State.launch p [(pc.toNat, w)] with a := a, d := d, pc := pc, unset := ⟨false, false, false⟩, mem := mem }

/-- A, D and PC after one step. -/
def regs (s : State) : Option (Word × Word × Addr) := (nextOf (step s)).map fun t => (t.a, t.d, t.pc)

/-- D after one step that leaves A, goes to the next address and writes no cell. -/
def newD (s : State) : Option Word :=
  (nextOf (step s)).bind fun t => if t.a = s.a ∧ t.pc = s.pc + 1 ∧ t.mem = s.mem then some t.d else none

/-- States S and T of 95_test_vectors.md V9. -/
def stS (w : Word) : State := start std 0x0010 0x0004 0 [(0x10, 0x0009)] w
def stT (w : Word) : State := start std 0x0020 0x8000 0 [(0x20, 0xFFFF)] w

-- V8: `@5`, `@32767`, and `@1` at the top address
theorem test_literal : regs (start std 0x1111 0x2222 0x0003 [(0, 0x3333)] 0x7FFF) = some (0x7FFF, 0x2222, 0x0004) := by decide
theorem test_literal_wraps : regs (start std 0x1111 0x2222 0x7FFF [(0, 0x3333)] 0x0001) = some (0x0001, 0x2222, 0x0000) := by
  decide

-- V9: every named computation into D, from both states
theorem test_zero : newD (stS 0xEA90) = some 0x0000 ∧ newD (stT 0xEA90) = some 0x0000 := by decide
theorem test_one : newD (stS 0xEFD0) = some 0x0001 ∧ newD (stT 0xEFD0) = some 0x0001 := by decide
theorem test_negOne : newD (stS 0xEE90) = some 0xFFFF ∧ newD (stT 0xEE90) = some 0xFFFF := by decide
theorem test_copyD : newD (stS 0xE310) = some 0x0004 ∧ newD (stT 0xE310) = some 0x8000 := by decide
theorem test_copyA : newD (stS 0xEC10) = some 0x0010 ∧ newD (stT 0xEC10) = some 0x0020 := by decide
theorem test_notD : newD (stS 0xE350) = some 0xFFFB ∧ newD (stT 0xE350) = some 0x7FFF := by decide
theorem test_notA : newD (stS 0xEC50) = some 0xFFEF ∧ newD (stT 0xEC50) = some 0xFFDF := by decide
theorem test_negD : newD (stS 0xE3D0) = some 0xFFFC ∧ newD (stT 0xE3D0) = some 0x8000 := by decide
theorem test_negA : newD (stS 0xECD0) = some 0xFFF0 ∧ newD (stT 0xECD0) = some 0xFFE0 := by decide
theorem test_incD : newD (stS 0xE7D0) = some 0x0005 ∧ newD (stT 0xE7D0) = some 0x8001 := by decide
theorem test_incA : newD (stS 0xEDD0) = some 0x0011 ∧ newD (stT 0xEDD0) = some 0x0021 := by decide
theorem test_decD : newD (stS 0xE390) = some 0x0003 ∧ newD (stT 0xE390) = some 0x7FFF := by decide
theorem test_decA : newD (stS 0xEC90) = some 0x000F ∧ newD (stT 0xEC90) = some 0x001F := by decide
theorem test_addDA : newD (stS 0xE090) = some 0x0014 ∧ newD (stT 0xE090) = some 0x8020 := by decide
theorem test_subDA : newD (stS 0xE4D0) = some 0xFFF4 ∧ newD (stT 0xE4D0) = some 0x7FE0 := by decide
theorem test_subAD : newD (stS 0xE1D0) = some 0x000C ∧ newD (stT 0xE1D0) = some 0x8020 := by decide
theorem test_andDA : newD (stS 0xE010) = some 0x0000 ∧ newD (stT 0xE010) = some 0x0000 := by decide
theorem test_orDA : newD (stS 0xE550) = some 0x0014 ∧ newD (stT 0xE550) = some 0x8020 := by decide
theorem test_copyM : newD (stS 0xFC10) = some 0x0009 ∧ newD (stT 0xFC10) = some 0xFFFF := by decide
theorem test_notM : newD (stS 0xFC50) = some 0xFFF6 ∧ newD (stT 0xFC50) = some 0x0000 := by decide
theorem test_negM : newD (stS 0xFCD0) = some 0xFFF7 ∧ newD (stT 0xFCD0) = some 0x0001 := by decide
theorem test_incM : newD (stS 0xFDD0) = some 0x000A ∧ newD (stT 0xFDD0) = some 0x0000 := by decide
theorem test_decM : newD (stS 0xFC90) = some 0x0008 ∧ newD (stT 0xFC90) = some 0xFFFE := by decide
theorem test_addDM : newD (stS 0xF090) = some 0x000D ∧ newD (stT 0xF090) = some 0x7FFF := by decide
theorem test_subDM : newD (stS 0xF4D0) = some 0xFFFB ∧ newD (stT 0xF4D0) = some 0x8001 := by decide
theorem test_subMD : newD (stS 0xF1D0) = some 0x0005 ∧ newD (stT 0xF1D0) = some 0x7FFF := by decide
theorem test_andDM : newD (stS 0xF010) = some 0x0000 ∧ newD (stT 0xF010) = some 0x8000 := by decide
theorem test_orDM : newD (stS 0xF550) = some 0x000D ∧ newD (stT 0xF550) = some 0xFFFF := by decide
theorem test_unnamed_nand : newD (stS 0xE050) = some 0xFFFF := by decide

-- V7 and R299: an unnamed code on each operand; `0xFA80` behaves as `0` and reads no memory word
theorem test_unnamed_minus_two : newD (start std 0 0x8000 0 [] 0xEF90) = some 0xFFFE := by decide
theorem test_unnamed_reads_no_m : newD (start Params.default 0x0010 0x0001 0 [] 0xFA90) = some 0x0000 := by decide

/-- V10's start state, with the word of `D+1` and a destination. -/
def stD (w : Word) : State := start Params.default 0x0010 0x0004 0 [(0x10, 0x0009)] w

/-- A, D, PC and all cells after one step. -/
def all (s : State) : Option (Word × Word × Addr × Memory) := (nextOf (step s)).map fun t => (t.a, t.d, t.pc, t.mem)

-- V10: the eight destinations
theorem test_destNone : all (stD 0xE7C0) = some (0x0010, 0x0004, 1, [(0x10, 0x0009)]) := by decide
theorem test_destM : all (stD 0xE7C8) = some (0x0010, 0x0004, 1, [(0x10, 0x0005)]) := by decide
theorem test_destD : all (stD 0xE7D0) = some (0x0010, 0x0005, 1, [(0x10, 0x0009)]) := by decide
theorem test_destMD : all (stD 0xE7D8) = some (0x0010, 0x0005, 1, [(0x10, 0x0005)]) := by decide
theorem test_destA : all (stD 0xE7E0) = some (0x0005, 0x0004, 1, [(0x10, 0x0009)]) := by decide
theorem test_destAM : all (stD 0xE7E8) = some (0x0005, 0x0004, 1, [(0x10, 0x0005)]) := by decide
theorem test_destAD : all (stD 0xE7F0) = some (0x0005, 0x0005, 1, [(0x10, 0x0009)]) := by decide
theorem test_destAMD : all (stD 0xE7F8) = some (0x0005, 0x0005, 1, [(0x10, 0x0005)]) := by decide

/-- The PCs after `D;Jxx` at PC 3 with A = 0x40, for V11's five values of D. -/
def jumps (w : Word) : List (Option Addr) :=
  [0x0000, 0x0001, 0x7FFF, 0x8000, 0xFFFF].map fun d => (regs (start std 0x0040 d 3 [] w)).map fun t => t.2.2

-- V11: the eight jumps
theorem test_jumpNone : jumps 0xE300 = [some 0x0004, some 0x0004, some 0x0004, some 0x0004, some 0x0004] := by decide
theorem test_jumpJGT : jumps 0xE301 = [some 0x0004, some 0x0040, some 0x0040, some 0x0004, some 0x0004] := by decide
theorem test_jumpJEQ : jumps 0xE302 = [some 0x0040, some 0x0004, some 0x0004, some 0x0004, some 0x0004] := by decide
theorem test_jumpJGE : jumps 0xE303 = [some 0x0040, some 0x0040, some 0x0040, some 0x0004, some 0x0004] := by decide
theorem test_jumpJLT : jumps 0xE304 = [some 0x0004, some 0x0004, some 0x0004, some 0x0040, some 0x0040] := by decide
theorem test_jumpJNE : jumps 0xE305 = [some 0x0004, some 0x0040, some 0x0040, some 0x0040, some 0x0040] := by decide
theorem test_jumpJLE : jumps 0xE306 = [some 0x0040, some 0x0004, some 0x0004, some 0x0040, some 0x0040] := by decide
theorem test_jumpJMP : jumps 0xE307 = [some 0x0040, some 0x0040, some 0x0040, some 0x0040, some 0x0040] := by decide

-- V12: wrap, the 15-bit target, and the old A
theorem test_pc_wraps : regs (start std 0x1111 0 32767 [] 0xEA80) = some (0x1111, 0, 0) := by decide
theorem test_jump_drops_bit15 : regs (start std 0x8005 0 2 [] 0xEA87) = some (0x8005, 0, 5) := by decide
theorem test_jump_to_old_a : regs (start std 0x0009 0x0030 2 [] 0xE327) = some (0x0030, 0x0030, 9) := by decide
theorem test_write_at_old_a : all (start std 0x0007 0 2 [(7, 0x0041)] 0xFDE8) = some (0x0042, 0, 3, [(7, 0x0042)]) := by decide
theorem test_address_drops_bit15 :
    all (start Params.default 0x8003 0x00AA 2 [] 0xE308) = some (0x8003, 0x00AA, 3, [(3, 0x00AA)]) := by decide

/-- V13's start state. -/
def stX (p : Params) (w : Word) : State := start p 0x0005 0xFFFD 0 [(5, 0x8001)] w

/-- D after the word under the three settings of V13. -/
def newD3 (w : Word) : List (Option Word) :=
  [newD (stX ext4 w), newD (stX ext5 w), newD (stX { ext4 with aslKeepsSign := false } w)]

-- V13: the Extended variant
theorem test_mulDA : newD3 0x8010 = [some 0xFFF1, some 0xFFF1, some 0xFFF1] := by decide
theorem test_mulDM : newD3 0x9010 = [some 0x7FFD, some 0x7FFD, some 0x7FFD] := by decide
theorem test_shlA : newD3 0xA810 = [some 0x000A, some 0xFFFE, some 0x000A] := by decide
theorem test_shlD : newD3 0xAC10 = [some 0xFFFA, some 0xFFFE, some 0xFFFA] := by decide
theorem test_shlM : newD3 0xB810 = [some 0x8002, some 0xFFFA, some 0x0002] := by decide
theorem test_shrA : newD3 0xA010 = [some 0x0002, some 0x0002, some 0x0002] := by decide
theorem test_shrD : newD3 0xA410 = [some 0xFFFE, some 0x0002, some 0xFFFE] := by decide
theorem test_shrM : newD3 0xB010 = [some 0xC000, some 0x8002, some 0xC000] := by decide
theorem test_mulDAAlias : newD3 0xC010 = [some 0xFFF1, some 0xFFF1, some 0xFFF1] := by decide
theorem test_mulDMAlias : newD3 0xD010 = [some 0x7FFD, some 0x7FFD, some 0x7FFD] := by decide
theorem test_standardPathA : newD3 0xE090 = [some 0x0002, some 0x0002, some 0x0002] := by decide
theorem test_standardPathM : newD3 0xF090 = [some 0x7FFE, some 0x7FFE, some 0x7FFE] := by decide

/-- The cells and the host events after one step. -/
def io (s : State) : Option (Memory × List HostEvent) := (nextOf (step s)).map fun t => (t.mem, t.events)

/-- V14's larger memory. -/
def big : Params := { Params.default with dmemWords := .w32768 }

-- V14: the edge of the RAM and the platform region
theorem test_last_cell : io (start Params.default 0x3FFF 0x0007 0 [] 0xE308) = some ([(16383, 0x0007)], []) := by decide
theorem test_platform_write :
    io (start Params.default 0x4000 0x0007 0 [] 0xE308) = some ([], [.write 0x4000 0x0007]) := by decide
theorem test_platform_read : io (start Params.default 0x6000 0x0007 0 [] 0xFC10) = some ([], [.read 0x6000]) := by decide
theorem test_platform_read_draws :
    (nextOf (step (start Params.default 0x6000 0x0007 0 [] 0xFC10))).map State.draws = some 1 := by decide
theorem test_platform_read_write : (nextOf (step (start Params.default 0x6000 0x0007 0 [] 0xFDC8))).map
    (fun t => t.events.map fun e => match e with | .read _ => true | .write _ _ => false) = some [false, true] := by decide
theorem test_big_write : io (start big 0x4000 0x0007 0 [] 0xE308) = some ([(16384, 0x0007)], []) := by decide
theorem test_big_unwritten : faultOf (step (start big 0x7FFF 0x0007 0 [] 0xFC10)) = some (.readUninit .m) := by decide

-- V15: reset forces the next PC and nothing else
theorem test_reset_runs_instruction :
    regs { start std 0x0005 0 0 [] 0xEDE0 with resetIn := [true] } = some (0x0006, 0, 0) := by decide
theorem test_reset_overrides_jump :
    regs { start std 0x0030 0x0001 4 [] 0xE301 with resetIn := [true] } = some (0x0030, 0x0001, 0) := by decide
theorem test_reset_keeps_write :
    all { start std 0x0030 0x0055 4 [] 0xE308 with resetIn := [true] } = some (0x0030, 0x0055, 0, [(48, 0x0055)]) := by decide

/-- A state of V16: marks `⊥` where told, the word at address 0. -/
def undef (p : Params) (a d : Word) (ua ud : Bool) (w : Word) : State :=
  { start p a d 0 [] w with unset := ⟨ua, ud, false⟩ }

/-- V16's Extended variant under `Undefined`. -/
def extU : Params := { Params.default with variant := .extended }

-- V16: the model faults and their order
theorem test_fault_pc : faultOf (step (State.powerOn Params.default [(0, 0xEA80)])) = some (.readUninit .pc) := by decide
theorem test_fault_fetch :
    faultOf (step { State.launch Params.default [(0, 0xEA80)] with pc := 1 }) = some (.fetchUnloaded 1) := by decide
theorem test_fault_d_first : faultOf (step (undef Params.default 0 0 true true 0xE010)) = some (.readUninit .d) := by decide
theorem test_no_fault_constant : (nextOf (step (undef Params.default 0 0 true true 0xEFD0))).map
    (fun t => (t.unset, t.d, t.pc)) = some (⟨true, false, false⟩, 0x0001, 1) := by decide
theorem test_fault_write_address : faultOf (step (undef Params.default 0 5 true false 0xE308)) = some (.readUninit .a) := by
  decide
theorem test_jump_not_taken_needs_no_a : (regs (undef Params.default 0 0 true false 0xE301)) = some (0, 0, 1) := by decide
theorem test_fault_jump_target : faultOf (step (undef Params.default 0 1 true false 0xE301)) = some (.readUninit .a) := by
  decide
-- R235, R401: with `reset = 1` the taken jump of `0;JMP` reads no target, and the other writes of `D=1;JMP` go on
theorem test_reset_needs_no_target :
    regs { undef Params.default 0 1 true false 0xEA87 with resetIn := [true] } = some (0, 1, 0) := by decide
theorem test_reset_overridden_jump_writes : (nextOf (step { undef Params.default 0 0 true true 0xEFD7 with
    resetIn := [true] })).map (fun t => (t.unset, t.d, t.pc)) = some (⟨true, false, false⟩, 0x0001, 0) := by decide
theorem test_fault_m : faultOf (step (undef Params.default 0x10 1 false false 0xFC10)) = some (.readUninit .m) := by decide
theorem test_fault_d_before_m : faultOf (step (undef Params.default 0x10 0 false true 0xF090)) = some (.readUninit .d) := by
  decide
theorem test_shift_a_needs_no_d : (nextOf (step (undef extU 0x10 0 false true 0xA820))).map
    (fun t => (t.a, t.unset, t.pc)) = some (0x20, ⟨false, true, false⟩, 1) := by decide
theorem test_shift_d_needs_no_a : regs (undef extU 0 3 true false 0xAC10) = some (0, 6, 1) := by decide
theorem test_fault_multiply_a : faultOf (step (undef extU 0 3 true false 0x8010)) = some (.readUninit .a) := by decide

/-! ### Chips (V1 to V6) -/

-- V2, V3
theorem test_or8way : orNWay 0b00010000#8 = true ∧ orNWay 0#8 = false := by decide
theorem test_mux4way : muxKWay (b := 2) #v[0x000A#16, 0x000B#16, 0x000C#16, 0x000D#16] 0b10 = 0x000C := by decide
theorem test_dmux8way : dmuxKWay (b := 3) false true 0b011 = #v[false, false, false, true, false, false, false, false] := by
  decide
theorem test_pc_chip : pcChipNext 0x0020 true true true 0x0007 = 0 ∧ pcChipNext 0x0020 true false false 0x0007 = 0x0020 ∧
    pcChipNext 0x0020 false true false 0xFFFF = 0 ∧ pcChipNext 0x0020 false false false 0x0007 = 0x0007 := by decide

-- V4, V5, V6
theorem test_add16 : add16 0x1234 0x4321 = 0x5555 ∧ add16 0x7FFF 0x0001 = 0x8000 ∧ add16 0xFFFF 0x0001 = 0x0000 := by decide
theorem test_shift_right : [shiftRight 0x8001, shiftRight 0xFFFF, shiftRight 0x1234] = [0xC000, 0xFFFF, 0x091A] := by decide
theorem test_shift_left : [shiftLeft true 0x4000, shiftLeft false 0x4000, shiftLeft true 0x8001, shiftLeft false 0x8001] =
    [0x0000, 0x8000, 0x8002, 0x0002] := by decide
theorem test_mul : [mul 0xFFFD 0x0005, mul 0x8000 0xFFFF, mul 0x012C 0x012C, mul 0x0100 0x0100] =
    [0xFFF1, 0x8000, 0x5F90, 0x0000] := by decide
theorem test_lsl_chip : [lslChip 0x8003 1, lslChip 0x0003 15, partialProduct 0x0003 0x0004 2] = [0x0006, 0x8000, 0x000C] := by
  decide

-- 40_primitives.md R132: a NAND fed by itself is refused, the Bit's loop through its flip-flop is accepted
def loopGate : Netlist 1 := ⟨#v[.nand 0 0]⟩
def bitLoop : Netlist 2 := ⟨#v[.nand 1 1, .dff 0]⟩
theorem test_cycle_refused : loopGate.acyclic = false := by decide
theorem test_state_loop_accepted : bitLoop.acyclic = true := by decide

/-! ### The host's two questions -/

-- `@5` placed at reset is decoded and run (S7's first tick)
theorem test_fetch_word : regs (State.reset.withFetchWord 16 0x0005) = some (0x0005, 0x0000, 1) := by decide
theorem test_decode_table_word : decodeTableWord 16 0x8A80 = some (.zero 0 d0 j0) := by decide

-- S7's second tick under `Zero`
theorem test_scenario_second_tick : regs (start std 0x0005 0x0000 1 [] 0xE090) = some (0x0005, 0x0005, 2) := by decide

/-! ### Witnesses: for each statement of Sys2Proof/Certificates/Slice0/Obligations.lean that has hypotheses, a state and operands that
meet them, for each of its clauses and at the boundaries of its ranges -/

/-- `INIT_POLICY = Undefined`, the Standard variant. -/
abbrev und : Params := Params.default

/-- Destination M, destination A with M, and the jump that is always taken. -/
def dM : Dest := ⟨false, false, true⟩
def dAM : Dest := ⟨true, false, true⟩
def jAll : Jump := ⟨true, true, true⟩

-- StepRunsDecodedInstruction, FaultOrder, NoValueInPcFaults: no value in the PC; no word at the PC; an A-word and a C-word at the PC
theorem witness_fetch : (State.powerOn und []).unset.pc = true ∧
    (State.reset.unset.pc = false ∧ Memory.lookup State.reset.rom State.reset.pc.toNat = none) ∧
    (Memory.lookup (stS 0x0005).rom 0 = some 0x0005 ∧ (decode std 0x0005).format = .aInstr 5) ∧
    Memory.lookup (stS 0xEA87).rom 0 = some 0xEA87 ∧
    (decode std 0xEA87).format = .cInstr ⟨3, false, 0b101010, d0, jAll⟩ := by decide

-- DecodeOfEncode: each format, the first and the last value of an operand
theorem witness_decodeOfEncode : (Instr.atValue 0).primary = true ∧ (Instr.atValue 0x7FFF).wellFormed und = true ∧
    (Instr.zero 0 d0 j0).wellFormed und = true ∧ (Instr.zero 3 d0 j0).wellFormed ext4 = true ∧
    (Instr.shlD true 15 dAM jAll).wellFormed ext4 = true ∧ (Instr.shlD true 15 dAM jAll).primary = true ∧
    (Instr.shrALo5 31 dAM jAll).wellFormed ext5 = true := by decide

-- EveryRowIsAReading: rows that are not primary, and a reading
theorem witness_readings : (Instr.destM 0 true 0x3F j0).wellFormed und = true ∧
    (Instr.standardPath true 0 d0 j0).wellFormed ext4 = true ∧ Instr.destM 3 false 0b001100 j0 ∈ readings und 0xE308 := by
  decide

-- StandardIgnoresBits14And13: `0xEA80` and the same word with bits 14 and 13 clear
theorem witness_ignoredBits : (stS 0).params.variant = .standard ∧ (0xEA80#16).getLsbD 15 = true ∧
    ∀ i, i ≠ 13 → i ≠ 14 → (0x8A80#16).getLsbD i = (0xEA80#16).getLsbD i := by
  refine ⟨rfl, rfl, fun i h1 h2 => ?_⟩
  by_cases h : i < 16
  · interval_cases i <;> first | rfl | exact absurd rfl h1 | exact absurd rfl h2
  · rw [BitVec.getLsbD_of_ge _ _ (by omega), BitVec.getLsbD_of_ge _ _ (by omega)]

-- SameInBothVariants: a word that completes and a word that faults
theorem witness_bothVariants : (0xE310#16).getLsbD 15 = true ∧ fieldE 0xE310 = 3 ∧
    (∃ t, exec (decode std 0xE310) (stS 0) = .next t) ∧
    exec (decode und 0xE310) (undef und 0 0 true true 0) = .fault (.readUninit .d) :=
  ⟨rfl, rfl, ⟨_, rfl⟩, rfl⟩

-- NeedsTable: each path, and operands that need not be equal
theorem witness_needs : (std.variant = .standard ∧ ext4.variant = .extended ∧ ext4.extSelBLo = .four ∧ ext5.extSelBLo = .five) ∧
    (needsX std ⟨0, false, 0b111111, d0, j0⟩ = false ∧ needsY std ⟨0, false, 0b111111, d0, j0⟩ = false) ∧
    (needsX ext4 ⟨0, false, 0, d0, j0⟩ = true ∧ needsX ext4 ⟨2, false, 0, d0, j0⟩ = true) ∧
    needsX ext4 ⟨1, false, 0b010000, d0, j0⟩ = true ∧ needsX ext5 ⟨1, false, 0b010000, d0, j0⟩ = false := by decide

-- ConstantComputations and the statements of the computations: the PC and a path; each operand there and not there
theorem witness_standardPath : (stS 0).standardPath 0 ∧ (stX ext4 0).standardPath 3 ∧ (stS 0).unset.pc = false :=
  ⟨.inl rfl, .inr rfl, rfl⟩
theorem witness_targetReady : (stS 0).targetReady dM j0 0 = true ∧ (undef und 0 0 true true 0).targetReady d0 j0 0 = true ∧
    (undef und 0 0 true true 0).targetReady dM j0 0 = false ∧
    State.targetReady { undef und 0 0 true true 0 with resetIn := [true] } d0 jAll 0 = true ∧
    (undef und 0 0 true true 0).targetReady d0 jAll 0 = false := by decide
theorem witness_operands :
    ((undef und 0 0 true true 0).unset.d = true ∧ (undef und 0 0 true true 0).standardPath 0) ∧
    ((undef und 0 0 true false 0).unset.d = false ∧ (undef und 0 0 true false 0).unset.a = true) ∧
    ((undef und 0x3FFF 0 false false 0).dataWord = none ∧ (undef und 0x3FFF 0 false false 0).unset.a = false) ∧
    (start std 0x3FFF 0 0 [(0x3FFF, 7)] 0).dataWord = some 7 ∧
    (start std 0x4000 0 0 [] 0).dataWord = some (Config.platformRead 0) :=
  ⟨⟨rfl, .inl rfl⟩, ⟨rfl, rfl⟩, ⟨rfl, rfl⟩, rfl, rfl⟩

-- UnnamedCodesOnA, UnnamedCodesOnM: codes of the lists with each value of `zx` and `zy`
theorem witness_unnamed : ((0b000001#6).getLsbD 5 = false ∧ (0b000001#6).getLsbD 3 = false) ∧
    ((0b111110#6).getLsbD 5 = true ∧ (0b111110#6).getLsbD 3 = true) ∧
    ((0b100000#6).getLsbD 5 = true ∧ (0b100000#6).getLsbD 3 = false) ∧
    (0b001000#6).getLsbD 5 = false ∧ (0b001000#6).getLsbD 3 = true := by decide

-- Multiplications, Shifts, ShiftsWithSelectorBAtFive: the parameters, with every value there, and with each one missing
theorem witness_extended : ((stX ext4 0).params.variant = .extended ∧ (stX ext4 0).params.extSelBLo = .four ∧
      (stX ext5 0).params.extSelBLo = .five ∧ (stX ext4 0).unset = ⟨false, false, false⟩) ∧
    (stX ext4 0).dataWord = some 0x8001 ∧ (stX ext5 0).dataWord = some 0x8001 ∧
    ((undef extU 0 0 true true 0).params.extSelBLo = .four ∧ (undef extU 0 0 true true 0).unset.d = true) ∧
    (undef extU 0 0 true false 0).unset.a = true ∧ (undef extU 5 0 false false 0).dataWord = none ∧
    (undef { extU with extSelBLo := .five } 5 0 false false 0).dataWord = none := by decide

-- StandardPathRow: `a = 0`; `a = 1` with `zy = 1`; `a = 1` with `zy = 0`
theorem witness_standardPathRow : (stX ext4 0).params.variant = .extended ∧
    (stX ext4 0).ready ⟨3, false, 0b000010, dM, jAll⟩ = true ∧ (stX ext4 0).ready ⟨3, true, 0b001100, dM, jAll⟩ = true ∧
    (stX ext4 0).ready ⟨3, true, 0b000010, dM, jAll⟩ = true := by decide

-- DestinationRows: every destination ready, at the last cell and at the first platform address; the store with no address
theorem witness_destinations : (∀ dA dD dM : Bool,
      (start und 0x3FFF 4 0 [] 0).ready ⟨3, false, 0b011111, ⟨dA, dD, dM⟩, j0⟩ = true ∧
      (start und 0x4000 4 0 [] 0).ready ⟨3, false, 0b011111, ⟨dA, dD, dM⟩, j0⟩ = true) ∧
    ((start und 0x3FFF 4 0 [] 0).backed (start und 0x3FFF 4 0 [] 0).addressM = true ∧
      (start und 0x4000 4 0 [] 0).backed (start und 0x4000 4 0 [] 0).addressM = false) ∧
    (start und 0x3FFF 4 0 [] 0).resetNow = false ∧
    (undef und 0 4 true false 0).computable ⟨3, false, 0b011111, dM, j0⟩ = true ∧
    (undef und 0 4 true false 0).unset.a = true := by decide

-- JumpRows: every jump code ready; results below, at and above 0; both values of `reset`; the taken jump with no target
theorem witness_jumps : (∀ jn jz jp : Bool, (stS 0).ready ⟨3, false, 0b001100, d0, ⟨jn, jz, jp⟩⟩ = true) ∧
    ((resultC ⟨3, false, 0b001100, d0, j0⟩ (start und 0 0x8000 0 [] 0)).toInt < 0 ∧
      (resultC ⟨3, false, 0b001100, d0, j0⟩ (start und 0 0 0 [] 0)).toInt = 0 ∧
      0 < (resultC ⟨3, false, 0b001100, d0, j0⟩ (start und 0 1 0 [] 0)).toInt) ∧
    ((stS 0).resetNow = false ∧ State.resetNow { stS 0 with resetIn := [true] } = true) ∧
    (undef und 0 1 true false 0).computable ⟨3, false, 0b001100, d0, j0⟩ = true ∧
    (undef und 0 1 true false 0).unset.a = true ∧ (undef und 0 1 true false 0).resetNow = false ∧
    jumpTaken ⟨false, false, true⟩ (resultC ⟨3, false, 0b001100, d0, j0⟩ (undef und 0 1 true false 0)) = true := by decide

-- OldAddressAndTarget: `AM=D;JMP`
theorem witness_oldAddress : (Instr.copyD 3 dAM jAll).format = .cInstr ⟨3, false, 0b001100, dAM, jAll⟩ ∧
    (stS 0).ready ⟨3, false, 0b001100, dAM, jAll⟩ = true ∧
    jumpTaken jAll (resultC ⟨3, false, 0b001100, dAM, jAll⟩ (stS 0)) = true ∧ (stS 0).resetNow = false := by decide

-- NoOpOnlyAdvances: `0`, and `M` with a backed address and with a platform address
theorem witness_noOp : (Instr.copyM 3 d0 j0).format = .cInstr ⟨3, true, 0b110000, d0, j0⟩ ∧
    (stS 0).ready ⟨3, false, 0b101010, d0, j0⟩ = true ∧ readsM std ⟨3, false, 0b101010, d0, j0⟩ = false ∧
    (stS 0).ready ⟨3, true, 0b110000, d0, j0⟩ = true ∧ (stS 0).backed (stS 0).addressM = true := by decide

-- InstructionFrame, NextPcPriority, TickIsItsChips: a next state of either format, with each clause's fields
theorem witness_next : (∃ t, exec (.atValue 0x7FFF) (stS 0) = .next t) ∧ (∃ t, exec (.incM 3 d0 j0) (stS 0) = .next t) ∧
    (∃ t, exec (.incM 3 dAM jAll) (stS 0) = .next t) ∧ (∃ t, exec (.incM 3 dM j0) (start std 0x4000 0 0 [] 0) = .next t) ∧
    (Instr.incM 3 dAM jAll).format = .cInstr ⟨3, true, 0b110111, dAM, jAll⟩ ∧
    readsM std ⟨3, true, 0b110111, dAM, jAll⟩ = true ∧ (0x8007#16).setWidth 15 = (start std 0 0 7 [] 0).pc ∧
    ∃ t, exec (.incM 3 dAM jAll) (start std 0 0 7 [] 0) = .next t :=
  ⟨⟨_, rfl⟩, ⟨_, rfl⟩, ⟨_, rfl⟩, ⟨_, rfl⟩, rfl, rfl, rfl, ⟨_, rfl⟩⟩

-- ReadAfterWrite, PlatformRegion: the last RAM address and the first platform address, and the larger RAM
theorem witness_backed : (start und 0x3FFF 0 0 [] 0).backed 0x3FFF = true ∧ (start und 0x4000 0 0 [] 0).backed 0x4000 = false ∧
    (start und 0x4000 0 0 [] 0).addressM = 0x4000 ∧ und.dmemWords = .w16384 ∧ big.dmemWords = .w32768 ∧
    (start big 0x4000 0 0 [] 0).backed 0x4000 = true := by decide

-- OverriddenJumpNeedsNoTarget: `0;JMP` with no value in A, in a tick with `reset = 1`
theorem witness_overriddenJump : (Instr.zero 3 d0 jAll).format = .cInstr ⟨3, false, 0b101010, d0, jAll⟩ ∧
    (undef und 0 0 true true 0).computable ⟨3, false, 0b101010, d0, jAll⟩ = true ∧
    jumpTaken jAll (resultC ⟨3, false, 0b101010, d0, jAll⟩ (undef und 0 0 true true 0)) = true ∧
    State.resetNow { undef und 0 0 true true 0 with resetIn := [true] } = true := by decide

-- ResetChangesOnlyPc: a tick that completes, a tick that faults under either `reset`, and one that `reset` keeps from faulting
theorem witness_reset : (∃ t, exec (.incD 3 d0 jAll) { stS 0 with resetIn := false :: [] } = .next t) ∧
    exec (.incD 3 d0 j0) { undef und 0 0 true true 0 with resetIn := false :: [] } = .fault (.readUninit .d) ∧
    exec (.incD 3 d0 j0) { undef und 0 0 true true 0 with resetIn := true :: [] } = .fault (.readUninit .d) ∧
    exec (.zero 3 d0 jAll) { undef und 0 0 true true 0 with resetIn := false :: [] } = .fault (.readUninit .a) :=
  ⟨⟨_, rfl⟩, rfl, rfl, rfl⟩

-- ZeroPolicyAlwaysCompletes, StepKeepsWf, UndefinedRefinesZero, InitialStatesAreWf
theorem witness_invariant : (stS 0xE7C8).wf = true ∧ (stS 0xE7C8).params.initPolicy = .zero ∧
    (nextOf (step (stS 0xE7C8))).isSome = true ∧ (stD 0xE7C8).wf = true ∧ (stD 0xE7C8).params.initPolicy = .undefined ∧
    (nextOf (step (stD 0xE7C8))).isSome = true ∧ Memory.romWf [(0, 0x0005), (0x7FFF, 0xEA87)] = true ∧
    und.initPolicy = .undefined ∧ std.initPolicy = .zero := by decide

-- EndOfRunRepeats: a jump to itself, and `@p; 0;JMP` at the last address that leaves room for it
theorem witness_ended : ((start und 7 0 7 [] 0xEA87).resetIn = [] ∧ (start und 7 0 7 [] 0xEA87).endedOne = true) ∧
    State.endedTwo { start und 0 0 0x7FFE [] 0 with rom := [(0x7FFE, 0x7FFE), (0x7FFF, 0xEA87)] } = true := by decide

-- DataMemoryIsTheRamChip, CpuPortsDriveMemory: `M=M+1` on a memory of zeros that both chips hold, and an A-instruction
theorem witness_ports : (start std 0x3FFF 0 0 [] 0).dataWord = some 0 ∧
    (∃ t, exec (decode std 0xFDC8) (start std 0x3FFF 0 0 [] 0) = .next t) ∧
    (∃ t, exec (decode std 0xFDC8) (start std 0x4000 0 0 [] 0) = .next t) ∧
    (∃ t, exec (decode std 0x0005) (start std 0x3FFF 0 0 [] 0) = .next t) ∧
    (start std 0x4000 0 0 [] 0).dataWord = some (Config.platformRead 0) ∧
    (cpuOut (start std 0x3FFF 0 0 [] 0) 0xFDC8 0 0).writeM = true ∧
    (cpuOut (start std 0x3FFF 0 0 [] 0) 0x0005 0 0).writeM = false :=
  ⟨rfl, ⟨_, rfl⟩, ⟨_, rfl⟩, ⟨_, rfl⟩, rfl, rfl, rfl⟩
theorem witness_ram16K (k : BitVec (ramBits ram16K)) : (start std 0x3FFF 0 0 [] 0).params.dmemWords = .w16384 ∧
    (start std 0x3FFF 0 0 [] 0).cell (k.setWidth 15) = some (ramOut ram16K (ramFilled 0 ram16K) k) := by
  rw [ramOut_ramFilled]; exact ⟨rfl, rfl⟩
theorem witness_ram32K (k : BitVec (ramBits ram32K)) :
    (∃ t, exec (decode std 0xFDC8) (start { std with dmemWords := .w32768 } 0x7FFF 0 0 [] 0) = .next t) ∧
    (start { std with dmemWords := .w32768 } 0x7FFF 0 0 [] 0).cell (k.setWidth 15) =
      some (ramOut ram32K (ramFilled 0 ram32K) k) := by
  rw [ramOut_ramFilled]; exact ⟨⟨_, rfl⟩, rfl⟩

-- MuxOfDMux: the selected output is 1
theorem witness_dmux : (dmuxKWay false true 0b101#3)[5] = true := by decide

end Sys2Proof.Machine.Test
end

