-- ==== Sys2Proof/Proofs/Scope.lean ====
section
/-! The state after reset (spec 00_scope.md R8; 10_state.md R33; 70_reset_and_hazards.md R405). -/

namespace Sys2Proof.Machine

/-- A launch state lists no cell, so the policy alone gives every cell's value (10_state.md R33). -/
@[simp] theorem State.launch_cell (p : Params) (rom : Memory) (k : Addr) :
    (State.launch p rom).cell k = unlisted p.initPolicy := rfl

theorem State.launch_unset_of_zero {p : Params} (hp : p.initPolicy = .zero) (rom : Memory) :
    (State.launch p rom).unset = ⟨false, false, false⟩ := by
  simp [State.launch, hp]

theorem State.reset_cell (k : Addr) : State.reset.cell k = some 0#16 :=
  State.launch_cell _ [] k

theorem State.reset_unset : State.reset.unset = ⟨false, false, false⟩ :=
  State.launch_unset_of_zero rfl []

/-- Settles O40: reset is a launch state under `Zero`, so its marks and cells are those of `launch` under that policy, and
the other fields stand written in `launch` and in the defaults of R8. -/
theorem resetValues : Obligations.ResetValues :=
  ⟨rfl, rfl, rfl, State.reset_unset, State.reset_cell, rfl, rfl, rfl, rfl, rfl⟩

end Sys2Proof.Machine
end

/-! The invariant of the machine's states, the launch and power-on states, and the tick as the chips of its registers
(spec 10_state.md R20 to R34; 40_primitives.md R135, R136; 43_cpu_cycle.md R230 to R235; 70_reset_and_hazards.md R403,
R405). -/

namespace Sys2Proof.Machine

/-! ### Launch and power-on -/

/-- Power-on lists no cell either: it differs from launch in the marks alone (70_reset_and_hazards.md R403). -/
@[simp] theorem State.powerOn_cell (p : Params) (rom : Memory) (k : Addr) :
    (State.powerOn p rom).cell k = unlisted p.initPolicy := rfl

theorem State.launch_unset_of_undefined {p : Params} (hp : p.initPolicy = .undefined) (rom : Memory) :
    (State.launch p rom).unset = ⟨true, true, false⟩ := by
  simp [State.launch, hp]

theorem State.powerOn_unset_of_undefined {p : Params} (hp : p.initPolicy = .undefined) (rom : Memory) :
    (State.powerOn p rom).unset = ⟨true, true, true⟩ := by
  simp [State.powerOn, hp]

/-- Under `Zero` the power-on PC holds the 0 that a launch puts there. -/
theorem State.powerOn_of_zero {p : Params} (hp : p.initPolicy = .zero) (rom : Memory) :
    State.powerOn p rom = State.launch p rom := by
  simp [State.powerOn, State.launch, hp]

/-- Settles O39: what does not depend on the policy stands written in `launch` and `powerOn`; the policy decides the
marks and what an unlisted cell reads as. -/
theorem launchState : Obligations.LaunchState := by
  intro p rom k
  refine ⟨rfl, rfl, rfl, rfl, rfl, rfl, fun hp => ?_, fun hp => ?_⟩
  · simp [State.launch_unset_of_undefined hp, State.powerOn_unset_of_undefined hp, hp, unlisted]
  · have hcell : (State.launch p rom).cell k = some 0#16 := by simp [hp, unlisted]
    have hunset := State.launch_unset_of_zero hp rom
    exact ⟨by rw [hunset], by rw [hunset], rfl, rfl, hcell, State.powerOn_of_zero hp rom⟩

/-! ### The invariant, part by part -/

theorem State.wf_iff {s : State} : s.wf = true ↔
    Memory.wf s.params s.mem = true ∧ Memory.romWf s.rom = true ∧ s.marksWf = true := by
  simp [State.wf, and_assoc]

/-- 10_state.md R21, as implications. -/
theorem State.marksWf_iff {s : State} : s.marksWf = true ↔
    (s.unset.a = true → s.a = 0#16) ∧ (s.unset.d = true → s.d = 0#16) ∧ (s.unset.pc = true → s.pc = 0#15) ∧
      (s.params.initPolicy = .zero → s.unset = ⟨false, false, false⟩) := by
  rcases hu : s.unset with ⟨a, d, pc⟩
  cases hp : s.params.initPolicy <;> simp [State.marksWf, hu, hp, and_assoc, imp_iff_not_or]

theorem State.unset_of_wf_of_zero {s : State} (h : s.wf = true) (hp : s.params.initPolicy = .zero) :
    s.unset = ⟨false, false, false⟩ := by
  obtain ⟨-, -, hmarks⟩ := State.wf_iff.mp h
  obtain ⟨-, -, -, hzero⟩ := State.marksWf_iff.mp hmarks
  exact hzero hp

/-! ### Every operation of a tick keeps the invariant -/

theorem State.loadA_wf {s : State} (h : s.wf = true) (v : Word) : (s.loadA v).wf = true := by
  rw [State.wf_iff, State.marksWf_iff] at h ⊢
  obtain ⟨hmem, hrom, -, hd, hpc, hzero⟩ := h
  exact ⟨hmem, hrom, by simp, hd, hpc, fun hp => by simp [hzero hp]⟩

theorem State.loadD_wf {s : State} (h : s.wf = true) (v : Word) : (s.loadD v).wf = true := by
  rw [State.wf_iff, State.marksWf_iff] at h ⊢
  obtain ⟨hmem, hrom, ha, -, hpc, hzero⟩ := h
  exact ⟨hmem, hrom, ha, by simp, hpc, fun hp => by simp [hzero hp]⟩

/-- The PC moves on only from a value: beside a mark it has to stay 0. -/
theorem State.advance_wf {s : State} (h : s.wf = true) (hpc : s.unset.pc = false) (taken : Bool) :
    (s.advance taken).wf = true := by
  rw [State.wf_iff, State.marksWf_iff] at h ⊢
  obtain ⟨hmem, hrom, ha, hd, -, hzero⟩ := h
  exact ⟨hmem, hrom, ha, hd, by simp [hpc], hzero⟩

@[simp] theorem traceC_wf (f : CFields) (s : State) : (traceC f s).wf = s.wf := by
  simp [State.wf, State.marksWf]

/-- A store reaches the cells only at a backed address, so every listed cell stays backed. -/
theorem State.writeM_wf {s : State} (h : s.wf = true) (v : Word) : (s.writeM v).wf = true := by
  obtain ⟨hmem, hrom, hmarks⟩ := State.wf_iff.mp h
  refine State.wf_iff.mpr ⟨?_, by simpa using hrom, by simpa [State.marksWf] using hmarks⟩
  rw [State.writeM_mem, State.writeM_params]
  split
  case isTrue hbacked => exact Memory.wf_store _ _ _ _ (by simpa [State.backed] using hbacked) hmem
  case isFalse => exact hmem

theorem commit_wf {s : State} (h : s.wf = true) (hpc : s.unset.pc = false) (d : Dest) (j : Jump) (out : Word) :
    (commit d j out s).wf = true := by
  have hM : (if d.toM then s.writeM out else s).wf = true := by
    split
    · exact State.writeM_wf h out
    · exact h
  have hMpc : (if d.toM then s.writeM out else s).unset.pc = false := by split <;> simp [hpc]
  have hadv := State.advance_wf hM hMpc (jumpTaken j out)
  unfold commit
  cases d.toD <;> cases d.toA
  · exact hadv
  · exact State.loadA_wf hadv out
  · exact State.loadD_wf hadv out
  · exact State.loadA_wf (State.loadD_wf hadv out) out

/-- Every instruction keeps the invariant, whatever word it was decoded from. -/
theorem exec_wf {i : Instr} {s t : State} (h : s.wf = true) (hexec : exec i s = .next t) : t.wf = true := by
  obtain ⟨hpc, ⟨v, -, rfl⟩ | ⟨f, -, -, rfl⟩⟩ := exec_next_cases hexec
  · exact State.loadA_wf (State.advance_wf h hpc false) _
  · exact commit_wf (by simpa using h) (by simpa using hpc) _ _ _

/-- Settles O37: a step that completes is an instruction's tick, and each part of a tick keeps the invariant. -/
theorem stepKeepsWf : Obligations.StepKeepsWf := by
  intro s t h hstep
  obtain ⟨w, -, hexec⟩ := step_next_cases hstep
  exact exec_wf h hexec

/-! ### Under `INIT_POLICY = Zero` nothing an instruction reads is missing -/

theorem State.cell_isSome_of_zero {s : State} (hp : s.params.initPolicy = .zero) (k : Addr) :
    (s.cell k).isSome = true := by
  unfold State.cell
  split <;> simp [hp, unlisted]

theorem State.dataWord_isSome_of_zero {s : State} (hp : s.params.initPolicy = .zero) : s.dataWord.isSome = true := by
  unfold State.dataWord
  split
  · exact State.cell_isSome_of_zero hp _
  · rfl

theorem State.ready_of_zero {s : State} (h : s.wf = true) (hp : s.params.initPolicy = .zero) (f : CFields) :
    s.ready f = true := by
  simp [State.ready, State.computable, State.targetReady, State.unset_of_wf_of_zero h hp,
    State.dataWord_isSome_of_zero hp]

/-- Settles O36: an A-instruction needs only the PC's value, and a C-instruction is ready for every value it reads; the
tick of each format then says what A and D hold. -/
theorem zeroPolicyAlwaysCompletes : Obligations.ZeroPolicyAlwaysCompletes := by
  intro i s h hp
  cases hf : i.format with
  | aInstr v =>
    have hpc : s.unset.pc = false := by rw [State.unset_of_wf_of_zero h hp]
    refine ⟨_, (exec_of_aInstr hf s).trans (execLiteral_next.mpr ⟨hpc, rfl⟩), fun v' hv => ?_, fun f hc => (nomatch hc)⟩
    cases hv
    exact ⟨rfl, rfl⟩
  | cInstr f =>
    refine ⟨_, exec_of_ready hf (State.ready_of_zero h hp f), ⟨fun v hv => (nomatch hv), fun f' hc => ?_⟩⟩
    cases hc
    simp

/-! ### The chips of the PC -/

/-- The ripple-carry chain of R162 computes the carries of addition. -/
theorem rippleBit_snd (a b : Word) (i : Nat) : (rippleBit a b i).2 = BitVec.carry (i + 1) a b false := by
  induction i with
  | zero => simp [rippleBit, halfAdder, andGate, BitVec.carry_succ, Bool.atLeastTwo]
  | succ i ih =>
    rw [BitVec.carry_succ, ← ih]
    simp [rippleBit, fullAdder, andGate, orGate, Bool.atLeastTwo]

theorem rippleBit_fst (a b : Word) {i : Nat} (hi : i < 16) : (rippleBit a b i).1 = (a + b).getLsbD i := by
  rw [BitVec.getLsbD_add hi]
  cases i with
  | zero => simp [rippleBit, halfAdder, xorGate]
  | succ i => simp [rippleBit, fullAdder, xorGate, rippleBit_snd]

/-- 41_arithmetic.md R162: the adder's output is the sum modulo 2^16. -/
theorem add16_eq_add (a b : Word) : add16 a b = a + b := by
  apply BitVec.eq_of_getLsbD_eq
  intro i hi
  rw [add16, getLsbD_busOfBits, rippleBit_fst a b hi]
  simp [hi]

theorem inc16_eq_add_one (v : Word) : inc16 v = v + 1#16 := add16_eq_add v 1#16

/-- The low 15 bits of the PC chip, with `inc` held at 1, are the machine's next PC, whatever bit 15 of its output holds
(10_state.md R27; 43_cpu_cycle.md R232). -/
theorem pcChipNext_setWidth {s : State} {q : Word} (hq : q.setWidth 15 = s.pc) (taken : Bool) :
    (pcChipNext s.a taken true s.resetNow q).setWidth 15 = nextPc s taken := by
  have hinc : (inc16 q).setWidth 15 = s.pc + 1#15 := by
    rw [inc16_eq_add_one, BitVec.setWidth_add _ _ (by omega), hq]
    rfl
  unfold pcChipNext nextPc State.addressM
  cases s.resetNow <;> cases taken <;> simp [hinc]

/-- Settles O46: the fields of the next state, format by format, are the closed forms of the Register and PC chips. -/
theorem tickIsItsChips : Obligations.TickIsItsChips := by
  intro i s t q hexec hq
  simp only [registerNext_eq, pcChipNext_setWidth hq]
  refine ⟨fun v hv => ?_, fun f hf => ?_⟩
  · rw [exec_of_aInstr hv, execLiteral_next] at hexec
    obtain ⟨-, rfl⟩ := hexec
    simp
  · rw [exec_of_cInstr hf, execC_next] at hexec
    obtain ⟨-, rfl⟩ := hexec
    simp

end Sys2Proof.Machine

/-! The memories of 20_memory.md: fetch, the data memory as a tick reads and writes it, the platform region, and the
hierarchical RAM chip as a flat array that holds the data memory of a run. -/

namespace Sys2Proof

/-! ### The format of a decoded word -/

/-- Selector A `00` and its alias `10` differ in the bit that tells the two rows apart (30_encoding.md R102). -/
theorem append_mulSelectorA : ∀ e : BitVec 2, e ≠ 0b11#2 → e ≠ 0b01#2 → BitVec.ofBool (e.getLsbD 1) ++ 0#1 = e := by
  decide

theorem format_decodeMul {f : CFields} (h3 : f.e ≠ 0b11#2) (h1 : f.e ≠ 0b01#2) :
    (decodeMul f).format = .cInstr f := by
  suffices h : (decodeMul f).format = .cInstr ⟨BitVec.ofBool (f.e.getLsbD 1) ++ 0#1, f.a, f.c, f.d, f.j⟩ by
    rw [h, append_mulSelectorA f.e h3 h1]
  unfold decodeMul
  cases f.e.getLsbD 1 <;> cases f.a <;> rfl

/-- With `EXT_SELB_LO = 4` the code is the two bits of selector B and the four bits the shift ignores. -/
theorem append_selectorB_four : ∀ c : BitVec 6,
    BitVec.ofBool (c.getLsbD 5) ++ BitVec.ofBool (c.getLsbD 4) ++ c.extractLsb' 0 4 = c := by
  decide

theorem format_decodeShift4 {f : CFields} (h1 : f.e = 0b01#2) : (decodeShift4 f).format = .cInstr f := by
  suffices h : (decodeShift4 f).format = .cInstr ⟨0b01#2, f.a,
      BitVec.ofBool (f.c.getLsbD 5) ++ BitVec.ofBool (f.c.getLsbD 4) ++ f.c.extractLsb' 0 4, f.d, f.j⟩ by
    rw [h, append_selectorB_four, ← h1]
  unfold decodeShift4
  cases f.c.getLsbD 5 <;> cases f.c.getLsbD 4 <;> cases f.a <;> rfl

/-- With `EXT_SELB_LO = 5` the code is the low bit of selector B and the five bits the shift ignores. -/
theorem append_selectorB_five : ∀ c : BitVec 6, BitVec.ofBool (c.getLsbD 5) ++ c.extractLsb' 0 5 = c := by
  decide

theorem format_decodeShift5 {f : CFields} (h1 : f.e = 0b01#2) : (decodeShift5 f).format = .cInstr f := by
  suffices h : (decodeShift5 f).format =
      .cInstr ⟨0b01#2, f.a, BitVec.ofBool (f.c.getLsbD 5) ++ f.c.extractLsb' 0 5, f.d, f.j⟩ by
    rw [h, append_selectorB_five, ← h1]
  unfold decodeShift5
  cases f.a <;> cases f.c.getLsbD 5 <;> rfl

/-- Whatever path the decoder takes, it keeps every field of the word, the ignored bits among them. -/
theorem format_decodeC (p : Params) (f : CFields) : (decodeC p f).format = .cInstr f := by
  unfold decodeC
  cases p.variant with
  | standard => exact format_decodeComputation ..
  | extended =>
    dsimp only
    split
    case isTrue => exact format_decodeComputation ..
    case isFalse h3 =>
      split
      case isTrue h1 =>
        cases p.extSelBLo with
        | four => exact format_decodeShift4 h1
        | five => exact format_decodeShift5 h1
      case isFalse h1 => exact format_decodeMul h3 h1

theorem format_decode_of_cInstr {w : Word} (h : w.getLsbD 15 = true) (p : Params) :
    (decode p w).format = .cInstr (fieldsOf w) := by
  rw [decode, if_pos h, format_decodeC]

theorem format_decode_of_aInstr {w : Word} (h : w.getLsbD 15 = false) (p : Params) :
    (decode p w).format = .aInstr (w.extractLsb' 0 15) := by
  rw [decode, if_neg (Bool.eq_false_iff.mp h)]
  rfl

end Sys2Proof

namespace Sys2Proof.Machine

/-! ### Fetch -/

theorem fetch_of_unset {s : State} (h : s.unset.pc = true) : fetch s = .error (.readUninit .pc) := by
  simp [fetch, h]

theorem fetch_of_unloaded {s : State} (hpc : s.unset.pc = false) (h : Memory.lookup s.rom s.pc.toNat = none) :
    fetch s = .error (.fetchUnloaded s.pc) := by
  simp [fetch, hpc, h]

theorem fetch_of_loaded {s : State} {w : Word} (hpc : s.unset.pc = false)
    (h : Memory.lookup s.rom s.pc.toNat = some w) : fetch s = .ok w := by
  simp [fetch, hpc, h]

theorem step_of_fetch_error {s : State} {r : Fault} (h : fetch s = .error r) : step s = .fault r := by
  rw [step, h]

theorem step_of_fetch_ok {s : State} {w : Word} (h : fetch s = .ok w) : step s = exec (decode s.params w) s := by
  rw [step, h]

/-- Settles O1: `step` is its fetch, and each case of the fetch has its equation. -/
theorem stepRunsDecodedInstruction : Obligations.StepRunsDecodedInstruction := fun _ =>
  ⟨fun h => step_of_fetch_error (fetch_of_unset h),
    fun hpc h => step_of_fetch_error (fetch_of_unloaded hpc h),
    fun _ hpc h => step_of_fetch_ok (fetch_of_loaded hpc h)⟩

theorem lookup_rom_withFetchWord (s : State) (w k : Nat) : Memory.lookup (s.withFetchWord 16 w).rom k =
    if s.pc.toNat = k then some (BitVec.ofNat 16 w) else Memory.lookup s.rom k := by
  have hw : BitVec.ofNat 16 (w % 2 ^ 16) = BitVec.ofNat 16 w := BitVec.eq_of_toNat_eq (by simp)
  rw [State.withFetchWord, Memory.lookup_insert, hw]

/-- Settles O2: the placed word is read back at the PC, whose mark is gone, so the fetch answers it. -/
theorem placedWordRunsNext : Obligations.PlacedWordRunsNext := by
  intro s w
  have hword : Memory.lookup (s.withFetchWord 16 w).rom (s.withFetchWord 16 w).pc.toNat = some (BitVec.ofNat 16 w) :=
    (lookup_rom_withFetchWord s w s.pc.toNat).trans (if_pos rfl)
  exact ⟨step_of_fetch_ok (fetch_of_loaded rfl hword), rfl, rfl,
    fun k hk => (lookup_rom_withFetchWord s w k).trans (if_neg hk.symm)⟩

/-! ### The data memory and the platform region -/

theorem State.dataWord_of_backed {s : State} (h : s.backed s.addressM = true) : s.dataWord = s.cell s.addressM := by
  simp [State.dataWord, h]

theorem State.dataWord_of_platform {s : State} (h : s.backed s.addressM = false) :
    s.dataWord = some (Config.platformRead s.draws) := by
  simp [State.dataWord, h]

theorem State.readM_of_backed {s : State} (h : s.backed s.addressM = true) : s.readM = s := by
  simp [State.readM, h]

theorem State.readM_of_platform {s : State} (h : s.backed s.addressM = false) :
    s.readM = { s with draws := s.draws + 1, events := .read s.addressM :: s.events } := by
  simp [State.readM, h]

theorem State.writeM_of_backed {s : State} (h : s.backed s.addressM = true) (v : Word) :
    s.writeM v = { s with mem := Memory.store s.params.initPolicy s.mem s.addressM.toNat v } := by
  simp [State.writeM, h]

theorem State.writeM_of_platform {s : State} (h : s.backed s.addressM = false) (v : Word) :
    s.writeM v = { s with events := .write s.addressM v :: s.events } := by
  simp [State.writeM, h]

/-- The cells see only the parameters and the listed words. -/
theorem State.cell_congr {s t : State} (hp : t.params = s.params) (hm : t.mem = s.mem) (k : Addr) :
    t.cell k = s.cell k := by
  simp only [State.cell, hp, hm]

theorem State.writeM_cell {s : State} (h : s.backed s.addressM = true) (v : Word) (k : Addr) :
    (s.writeM v).cell k = if s.addressM = k then some v else s.cell k :=
  State.cell_of_store (by simp) (by simp [h]) k

/-- Settles O31: at a backed address the write is one store into the cells and the read is the cell itself. -/
theorem readAfterWrite : Obligations.ReadAfterWrite := by
  intro s v h
  refine ⟨?_, fun k hk => ?_, ?_, State.dataWord_of_backed h, State.readM_of_backed h⟩
  · rw [State.dataWord_of_backed (by simpa using h), State.writeM_addressM, State.writeM_cell h, if_pos rfl]
  · rw [State.writeM_cell h, if_neg hk.symm]
  · rw [State.writeM_of_backed h]

theorem State.backed_of_w32768 {s : State} (h : s.params.dmemWords = .w32768) (k : Addr) : s.backed k = true := by
  simp only [State.backed, h, DmemWords.count, decide_eq_true_eq]
  exact k.isLt

theorem State.backed_iff_of_w16384 {s : State} (h : s.params.dmemWords = .w16384) (k : Addr) :
    s.backed k = true ↔ k.toNat ≤ 0x3FFF := by
  simp only [State.backed, h, DmemWords.count, decide_eq_true_eq]
  omega

/-- Settles O32: 15 bits never leave the larger RAM, and an access outside the smaller one is the host's. -/
theorem platformRegion : Obligations.PlatformRegion :=
  ⟨fun _ k h => State.backed_of_w32768 h k, fun _ k h => State.backed_iff_of_w16384 h k, fun _ v h =>
    ⟨State.dataWord_of_platform h, State.readM_of_platform h, State.writeM_of_platform h v⟩⟩

/-! ### The frame of an instruction -/

theorem traceC_draws (f : CFields) (s : State) : (traceC f s).draws =
    if readsM s.params f && !s.backed s.addressM then s.draws + 1 else s.draws := by
  unfold traceC
  cases readsM s.params f <;> cases hb : s.backed s.addressM <;> simp [hb]

theorem traceC_events (f : CFields) (s : State) : (traceC f s).events =
    if readsM s.params f && !s.backed s.addressM then .read s.addressM :: s.events else s.events := by
  unfold traceC
  cases readsM s.params f <;> cases hb : s.backed s.addressM <;> simp [hb]

/-- The cells after a C-instruction's tick: only a store to a backed address changes one, the one at the old A. -/
theorem commit_cell (d : Dest) (j : Jump) (out : Word) (s : State) (k : Addr) : (commit d j out s).cell k =
    if d.toM = true ∧ s.backed s.addressM = true ∧ s.addressM = k then some out else s.cell k := by
  by_cases h : d.toM = true ∧ s.backed s.addressM = true
  · rw [State.cell_of_store (s := s) (v := out) (by simp) (by simp [h])]
    simp [h]
  · rw [State.cell_congr (s := s) (by simp) (by simp [h]), if_neg fun hk => h ⟨hk.1, hk.2.1⟩]

/-- Settles O30: each field of the two ticks' next states, where it is the field of the state before. -/
theorem instructionFrame : Obligations.InstructionFrame := by
  intro i s t hexec
  obtain ⟨-, ⟨v, hv, rfl⟩ | ⟨f, hf, -, rfl⟩⟩ := exec_next_cases hexec
  · refine ⟨rfl, rfl, rfl, rfl, fun _ _ => ⟨⟨rfl, rfl⟩, fun _ => rfl, rfl, rfl, rfl⟩, fun f hf => ?_⟩
    rw [hv] at hf
    cases hf
  · refine ⟨by simp, by simp, by simp, by simp, fun v hv => (nomatch hf.symm.trans hv), fun f' hf' => ?_⟩
    cases hf.symm.trans hf'
    simp only [KeepsA, KeepsD, commit_cell, commit_a, commit_d, commit_unset, commit_mem, commit_draws, commit_events,
      traceC_a, traceC_d, traceC_unset, traceC_mem, traceC_cell, traceC_addressM, traceC_backed, traceC_params,
      traceC_draws, traceC_events]
    refine ⟨fun h => ?_, fun h => ?_, fun h => ?_, fun _ k hk => ?_, fun h => ?_, fun h => ?_, fun h => ?_,
      fun hr hm => ?_⟩
    · simp [h]
    · simp [h]
    · simp [h]
    · exact if_neg fun hs => hk hs.2.2.symm
    · simp [h]
    · rcases h with h | h <;> simp [h]
    · simp [h]
    · simp [hr, hm]

/-! ### The RAM chip -/

/-- An address is the child it selects and the address inside the child (20_memory.md R59). -/
theorem ramAddress_inj {b : Nat} {bs : List Nat} {k k' : BitVec (ramBits (b :: bs))} :
    k = k' ↔ ramSel b bs k = ramSel b bs k' ∧ ramLow b bs k = ramLow b bs k' := by
  refine ⟨fun h => h ▸ ⟨rfl, rfl⟩, fun ⟨hsel, hlow⟩ => BitVec.eq_of_getLsbD_eq fun i hi => ?_⟩
  by_cases h : i < ramBits bs
  · simpa [ramLow, h] using congrArg (·.getLsbD i) hlow
  · have hi' : i - ramBits bs < b := by simp only [ramBits] at hi; omega
    simpa [ramSel, hi', show ramBits bs + (i - ramBits bs) = i by omega] using
      congrArg (·.getLsbD (i - ramBits bs)) hsel

/-- The multiplexer picks one child's output (20_memory.md R61). -/
theorem ramOut_cons {b : Nat} {bs : List Nat} (children : RamCells (b :: bs)) (k : BitVec (ramBits (b :: bs))) :
    ramOut (b :: bs) children k =
      ramOut bs (muxKWay (children : Vector (RamCells bs) (2 ^ b)) (ramSel b bs k)) (ramLow b bs k) := by
  rw [ramOut]
  exact Vector.getElem_map ..

/-- The child at an address sees the load only if the written address selects it too (20_memory.md R60). -/
theorem muxKWay_ramNext_cons {b : Nat} {bs : List Nat} (children : RamCells (b :: bs)) (inp : Word) (load : Bool)
    (k : BitVec (ramBits (b :: bs))) (sel : BitVec b) :
    muxKWay (ramNext (b :: bs) children inp load k : Vector (RamCells bs) (2 ^ b)) sel =
      ramNext bs (muxKWay (children : Vector (RamCells bs) (2 ^ b)) sel) inp
        (if sel = ramSel b bs k then load else false) (ramLow b bs k) := by
  refine (Vector.getElem_ofFn ..).trans ?_
  simp only [Fin.getElem_fin, getElem_dmuxKWay, BitVec.toNat_inj]
  rfl

/-- Settles O43, by induction on the levels: a level hands the write and the read on to the children they select, and
two addresses are the same when they select the same child and the same address in it. -/
theorem ramIsAFlatArray : Obligations.RamIsAFlatArray := by
  intro shape
  induction shape with
  | nil =>
    intro cell inp load k k'
    obtain rfl : k' = k := BitVec.eq_of_zero_length rfl
    simpa [ramOut, ramNext] using registerNext_eq inp cell load
  | cons b bs ih =>
    intro children inp load k k'
    rw [ramOut_cons, ramOut_cons, muxKWay_ramNext_cons, ih]
    congr 1
    rw [ramAddress_inj]
    by_cases hsel : ramSel b bs k' = ramSel b bs k <;> simp [hsel]

/-! ### The CPU's ports and the RAM chip -/

theorem extractLsb'_selA_extCode (f : CFields) : (extCode f).extractLsb' 7 2 = f.e :=
  (BitVec.extractLsb'_append_eq_of_le (by omega)).trans BitVec.extractLsb'_append_eq_left

theorem extractLsb'_c_extCode (f : CFields) : (extCode f).extractLsb' 0 6 = f.c :=
  BitVec.extractLsb'_append_eq_right

/-- With `zy = 1` the ALU ignores its `y` operand. -/
theorem aluOut_of_zy {c : BitVec 6} (h : c.getLsbD 3 = true) (x y y' : Word) : aluOut x y c = aluOut x y' c := by
  simp only [aluOut, h, if_true]

/-- 43_cpu_cycle.md R236: an operand `y` that is not needed does not reach the result. -/
theorem functionUnit_of_not_needsY {p : Params} {f : CFields} (h : needsY p f = false) (x y y' : Word) :
    functionUnit p f x y = functionUnit p f x y' := by
  unfold needsY at h
  unfold functionUnit
  cases hv : p.variant with
  | standard =>
    simp only [hv] at h ⊢
    simp only [alu, aluOut_of_zy (by simpa using h) x y y']
  | extended =>
    simp only [hv] at h ⊢
    simp only [extAlu, extAluOut, extractLsb'_selA_extCode, extractLsb'_c_extCode]
    by_cases h3 : f.e = 0b11#2
    · simp only [h3, if_true] at h ⊢
      rw [aluOut_of_zy (by simpa using h) x y y']
    · by_cases h1 : f.e = 0b01#2
      · have hsel : (selectorB p.extSelBLo (extCode f)).getLsbD 0 = true := by simpa [h1] using h
        simp only [if_neg h3, if_pos h1, shiftOut, hsel, if_true]
      · simp [h3, h1] at h

/-- Where the memory bus carries M to a tick that reads it, `outM` is the result of the tick. -/
theorem outM_eq_resultC {s : State} {w inM : Word} (hw : w.getLsbD 15 = true)
    (hread : readsM s.params (fieldsOf w) = true → s.dataWord = some inM) (idle : Word) :
    (cpuOut s w inM idle).outM = resultC (fieldsOf w) s := by
  simp only [cpuOut, hw, if_true, resultC, xOperand]
  cases hy : needsY s.params (fieldsOf w) with
  | false => rw [functionUnit_of_not_needsY hy]
  | true =>
    have hop : yOperand (fieldsOf w) s = if (fieldsOf w).a then inM else s.a := by
      cases ha : (fieldsOf w).a with
      | false => simp [yOperand, ha]
      | true => simp [yOperand, ha, hy, hread (by simp [readsM, ha, hy])]
    rw [hop]

/-- 43_cpu_cycle.md R227, R228: the cells after a tick, from the ports of the tick. -/
theorem cell_of_exec_decode {s t : State} {w inM : Word}
    (hread : readsM s.params (fieldsOf w) = true → s.dataWord = some inM)
    (hexec : exec (decode s.params w) s = .next t) (idle : Word) (k : Addr) :
    t.cell k = if (cpuOut s w inM idle).writeM = true ∧ s.backed s.addressM = true ∧ s.addressM = k then
      some (cpuOut s w inM idle).outM else s.cell k := by
  cases hw : w.getLsbD 15 with
  | false =>
    rw [exec_of_aInstr (format_decode_of_aInstr hw _), execLiteral_next] at hexec
    obtain ⟨-, rfl⟩ := hexec
    have hwrite : (cpuOut s w inM idle).writeM = false := by simp only [cpuOut, hw, Bool.false_and]
    rw [hwrite, if_neg (by simp)]
    rfl
  | true =>
    rw [exec_of_cInstr (format_decode_of_cInstr hw _), execC_next] at hexec
    obtain ⟨-, rfl⟩ := hexec
    have hwrite : (cpuOut s w inM idle).writeM = (fieldsOf w).d.toM := by simp only [cpuOut, hw, Bool.true_and]; rfl
    simp only [commit_cell, traceC_cell, traceC_backed, traceC_addressM, outM_eq_resultC hw hread, hwrite]

/-- The RAM chip holds the cells of a state: each address of the chip reads as the cell there. -/
def HoldsCells (shape : List Nat) (cells : RamCells shape) (s : State) : Prop :=
  ∀ k : BitVec (ramBits shape), s.cell (k.setWidth 15) = some (ramOut shape cells k)

theorem eq_setWidth_iff {n : Nat} (hn : n ≤ 15) {a : Addr} (ha : a.toNat < 2 ^ n) (k : BitVec n) :
    a = k.setWidth 15 ↔ k = a.setWidth n := by
  have hk : k.toNat < 2 ^ 15 := lt_of_lt_of_le k.isLt (Nat.pow_le_pow_right (by omega) hn)
  rw [← BitVec.toNat_inj, ← BitVec.toNat_inj, BitVec.toNat_setWidth, BitVec.toNat_setWidth, Nat.mod_eq_of_lt hk,
    Nat.mod_eq_of_lt ha, eq_comm]

/-- A chip with a Register for each backed word, loaded by a write to a backed address, goes on holding the cells. -/
theorem HoldsCells.ramNext {shape : List Nat} {cells : RamCells shape} {s t : State} {out : Word} {write : Bool}
    (h : HoldsCells shape cells s) (hbits : ramBits shape ≤ 15) (hsize : s.params.dmemWords.count = 2 ^ ramBits shape)
    (ht : ∀ k, t.cell k =
      if write = true ∧ s.backed s.addressM = true ∧ s.addressM = k then some out else s.cell k) :
    HoldsCells shape
      (ramNext shape cells out (write && s.backed s.addressM) (s.addressM.setWidth (ramBits shape))) t := by
  intro k
  rw [ht, h k, ramIsAFlatArray, apply_ite some]
  by_cases hb : s.backed s.addressM = true
  · have ha : s.addressM.toNat < 2 ^ ramBits shape := by simpa [State.backed, hsize] using hb
    simp [hb, eq_setWidth_iff hbits ha]
  · simp [hb]

theorem State.backed_eq_not_bit14 {s : State} (h : s.params.dmemWords = .w16384) (k : Addr) :
    s.backed k = !k.getLsbD 14 := by
  have hbit : k.getLsbD 14 = decide (2 ^ 14 ≤ k.toNat) :=
    (BitVec.msb_eq_getLsbD_last k).symm.trans (BitVec.msb_eq_decide k)
  rw [Bool.eq_iff_iff, State.backed_iff_of_w16384 h, hbit, Bool.not_eq_true', decide_eq_false_iff_not]
  omega

/-- Settles O44: the chip's load is the port `writeM` at the addresses the chip backs, so it follows the cells as the
tick leaves them. -/
theorem dataMemoryIsTheRamChip : Obligations.DataMemoryIsTheRamChip := by
  intro s t w inM idle hread hexec
  have ht := cell_of_exec_decode hread hexec idle
  refine ⟨fun hp cells h => ?_, fun hp cells h => ?_⟩
  · have hsize : s.params.dmemWords.count = 2 ^ ramBits ram16K := by rw [hp]; rfl
    have hnext := HoldsCells.ramNext h (by decide) hsize ht
    rwa [State.backed_eq_not_bit14 hp] at hnext
  · have hsize : s.params.dmemWords.count = 2 ^ ramBits ram32K := by rw [hp]; rfl
    have hnext := HoldsCells.ramNext h (by decide) hsize ht
    rwa [State.backed_of_w32768 hp, Bool.and_true] at hnext

end Sys2Proof.Machine

/-! The encoding (spec 30_encoding.md R90 to R106): the decoder and the encoder are inverse to each other, and all rows
that a word matches do the same. -/

namespace Sys2Proof

/-! ### The word of an instruction is the word of its format -/

theorem encode_of_aInstr {i : Instr} {v : BitVec 15} (h : i.format = .aInstr v) : encode i = v.setWidth 16 := by
  simp only [encode, h]

theorem encode_of_cInstr {i : Instr} {f : CFields} (h : i.format = .cInstr f) : encode i = encodeC f := by
  simp only [encode, h]

theorem encode_congr {i i' : Instr} (h : i.format = i'.format) : encode i = encode i' := by
  simp only [encode, h]

theorem decode_setWidth (p : Params) (v : BitVec 15) : decode p (v.setWidth 16) = .atValue v := by
  have hclass : (v.setWidth 16).getLsbD 15 = false := by simp
  rw [decode, if_neg (Bool.eq_false_iff.mp hclass), ← BitVec.setWidth_eq_extractLsb' (by omega),
    BitVec.setWidth_setWidth_of_le _ (by omega), BitVec.setWidth_eq]

theorem decode_encodeC (p : Params) (f : CFields) : decode p (encodeC f) = decodeC p f := by
  rw [decode, if_pos (encodeC_class f), fieldsOf_encodeC]

/-- 30_encoding.md R103: no bit of a word is dropped, neither by the fields of a C-instruction nor by the literal. -/
theorem encode_decode (p : Params) (w : Word) : encode (decode p w) = w := by
  cases h : w.getLsbD 15 with
  | true => rw [encode_of_cInstr (format_decode_of_cInstr h p), encodeC_fieldsOf h]
  | false =>
    rw [encode_of_aInstr (format_decode_of_aInstr h p)]
    apply BitVec.eq_of_getLsbD_eq
    intro i hi
    rcases Nat.lt_succ_iff_lt_or_eq.mp hi with h15 | rfl
    · simp [h15, hi]
    · simpa using h.symm

/-! ### The paths of the decoder -/

/-- The table of R99 reads every word of the Standard variant, and those of the Extended one with `e = 11`. -/
theorem decodeC_of_computation {p : Params} {e : BitVec 2} (h : (p.variant == .standard || e == 0b11#2) = true)
    (a : Bool) (c : BitVec 6) (d : Dest) (j : Jump) : decodeC p ⟨e, a, c, d, j⟩ = decodeComputation e a c d j := by
  unfold decodeC
  cases hv : p.variant with
  | standard => rfl
  | extended => exact if_pos (by simpa [hv] using h)

theorem decodeC_of_mul {p : Params} {f : CFields} (hv : p.variant = .extended) (h3 : f.e ≠ 0b11#2)
    (h1 : f.e ≠ 0b01#2) : decodeC p f = decodeMul f := by
  simp only [decodeC, hv, if_neg h3, if_neg h1]

theorem decodeC_of_shift4 {p : Params} {f : CFields} (hv : p.variant = .extended) (hlo : p.extSelBLo = .four)
    (h1 : f.e = 0b01#2) : decodeC p f = decodeShift4 f := by
  simp [decodeC, hv, hlo, h1]

theorem decodeC_of_shift5 {p : Params} {f : CFields} (hv : p.variant = .extended) (hlo : p.extSelBLo = .five)
    (h1 : f.e = 0b01#2) : decodeC p f = decodeShift5 f := by
  simp [decodeC, hv, hlo, h1]

/-! ### Each table answers rows of its own machines -/

theorem decodeComputation_wellFormed_primary (p : Params) (e : BitVec 2) (a : Bool) (c : BitVec 6) (d : Dest)
    (j : Jump) : (decodeComputation e a c d j).wellFormed p = (p.variant == .standard || e == 0b11#2) ∧
      (decodeComputation e a c d j).primary = true := by
  unfold decodeComputation
  split <;> exact ⟨rfl, rfl⟩

theorem decodeMul_wellFormed_primary (p : Params) (f : CFields) :
    (decodeMul f).wellFormed p = (p.variant == .extended) ∧ (decodeMul f).primary = true := by
  unfold decodeMul
  split <;> exact ⟨rfl, rfl⟩

theorem decodeShift4_wellFormed_primary (p : Params) (f : CFields) :
    (decodeShift4 f).wellFormed p = (p.variant == .extended && p.extSelBLo == .four) ∧
      (decodeShift4 f).primary = true := by
  unfold decodeShift4
  split <;> exact ⟨rfl, rfl⟩

theorem decodeShift5_wellFormed_primary (p : Params) (f : CFields) :
    (decodeShift5 f).wellFormed p = (p.variant == .extended && p.extSelBLo == .five) ∧
      (decodeShift5 f).primary = true := by
  unfold decodeShift5
  split <;> exact ⟨rfl, rfl⟩

theorem decodeC_wellFormed_primary (p : Params) (f : CFields) :
    (decodeC p f).wellFormed p = true ∧ (decodeC p f).primary = true := by
  by_cases hcomp : (p.variant == .standard || f.e == 0b11#2) = true
  · obtain ⟨hwf, hprim⟩ := decodeComputation_wellFormed_primary p f.e f.a f.c f.d f.j
    rw [decodeC_of_computation hcomp]
    exact ⟨hwf.trans hcomp, hprim⟩
  · obtain ⟨hv, h3⟩ : p.variant = .extended ∧ f.e ≠ 0b11#2 := by
      cases hv : p.variant <;> simp_all
    by_cases h1 : f.e = 0b01#2
    · cases hlo : p.extSelBLo with
      | four =>
        obtain ⟨hwf, hprim⟩ := decodeShift4_wellFormed_primary p f
        rw [decodeC_of_shift4 hv hlo h1]
        exact ⟨by simp [hwf, hv, hlo], hprim⟩
      | five =>
        obtain ⟨hwf, hprim⟩ := decodeShift5_wellFormed_primary p f
        rw [decodeC_of_shift5 hv hlo h1]
        exact ⟨by simp [hwf, hv, hlo], hprim⟩
    · obtain ⟨hwf, hprim⟩ := decodeMul_wellFormed_primary p f
      rw [decodeC_of_mul hv h3 h1]
      exact ⟨by simp [hwf, hv], hprim⟩

theorem decode_wellFormed_primary (p : Params) (w : Word) :
    (decode p w).wellFormed p = true ∧ (decode p w).primary = true := by
  unfold decode
  split
  · exact decodeC_wellFormed_primary p (fieldsOf w)
  · exact ⟨rfl, rfl⟩

/-- Settles O5: the decoder keeps every field of the word, and each of its tables answers rows the machine has. -/
theorem encodeOfDecode : Obligations.EncodeOfDecode := fun p w =>
  ⟨encode_decode p w, decode_wellFormed_primary p w⟩

/-! ### A primary row is read back from its fields -/

/-- Each row stands in the table that its selectors choose, at the place its fixed bits name, and its operands are the
fields (and the ignored bits of a shift) read back. -/
theorem decodeC_of_format {p : Params} {i : Instr} {f : CFields} (hf : i.format = .cInstr f)
    (hwf : i.wellFormed p = true) (hprim : i.primary = true) : decodeC p f = i := by
  cases i with
  | atValue => cases hf
  | destNone | destM | destD | destMD | destA | destAM | destAD | destAMD => cases hprim
  | jumpNone | jumpJGT | jumpJEQ | jumpJGE | jumpJLT | jumpJNE | jumpJLE | jumpJMP => cases hprim
  | standardPath => cases hprim
  | mulDA | mulDM | mulDAAlias | mulDMAlias =>
    cases hf
    rw [decodeC_of_mul (by simpa [Instr.wellFormed] using hwf) (by simp) (by simp)]
    simp only [decodeMul]
    rfl
  | shlA | shlD | shlM | shrA | shrD | shrM =>
    cases hf
    obtain ⟨hv, hlo⟩ : p.variant = .extended ∧ p.extSelBLo = .four := by simpa [Instr.wellFormed] using hwf
    rw [decodeC_of_shift4 hv hlo rfl]
    simp only [decodeShift4, BitVec.getLsbD_append, BitVec.extractLsb'_append_eq_right]
    rfl
  | shrALo5 | shrDLo5 | shlMLo5 | shlDLo5 =>
    cases hf
    obtain ⟨hv, hlo⟩ : p.variant = .extended ∧ p.extSelBLo = .five := by simpa [Instr.wellFormed] using hwf
    rw [decodeC_of_shift5 hv hlo rfl]
    simp only [decodeShift5, BitVec.getLsbD_append, BitVec.extractLsb'_append_eq_right]
    rfl
  | _ =>
    cases hf
    exact (decodeC_of_computation hwf _ _ _ _).trans rfl

theorem eq_atValue_of_format {i : Instr} {v : BitVec 15} (h : i.format = .aInstr v) : i = .atValue v := by
  cases i with
  | atValue => cases h; rfl
  | _ => cases h

theorem decode_encode {p : Params} {i : Instr} (hwf : i.wellFormed p = true) (hprim : i.primary = true) :
    decode p (encode i) = i := by
  cases hf : i.format with
  | aInstr v =>
    rw [encode_of_aInstr hf, decode_setWidth, eq_atValue_of_format hf]
  | cInstr f => rw [encode_of_cInstr hf, decode_encodeC, decodeC_of_format hf hwf hprim]

/-- Settles O4, format by format: the word holds the fields, and the fields choose the row. -/
theorem decodeOfEncode : Obligations.DecodeOfEncode := fun _ _ => decode_encode

/-! ### The readings of a word -/

theorem mem_readings {p : Params} {w : Word} {i : Instr} : i ∈ readings p w ↔ i = decode p w ∨ w.getLsbD 15 = true ∧
    ((p.variant = .extended ∧ fieldE w = 0b11#2) ∧ i = .standardPath (fieldA w) (fieldC w) (fieldD w) (fieldJ w) ∨
      i = destRow (fieldsOf w) ∨ i = jumpRow (fieldsOf w)) := by
  unfold readings
  cases w.getLsbD 15 with
  | false => simp
  | true =>
    by_cases hpath : p.variant = .extended ∧ fieldE w = 0b11#2 <;> simp [hpath, fieldsOf]

theorem destRow_format_wellFormed (p : Params) (f : CFields) :
    (destRow f).format = .cInstr f ∧ (destRow f).wellFormed p = true := by
  obtain ⟨e, a, c, ⟨toA, toD, toM⟩, j⟩ := f
  cases toA <;> cases toD <;> cases toM <;> exact ⟨rfl, rfl⟩

theorem jumpRow_format_wellFormed (p : Params) (f : CFields) :
    (jumpRow f).format = .cInstr f ∧ (jumpRow f).wellFormed p = true := by
  obtain ⟨e, a, c, d, ⟨onNeg, onZero, onPos⟩⟩ := f
  cases onNeg <;> cases onZero <;> cases onPos <;> exact ⟨rfl, rfl⟩

/-- A reading is a row of the machine, and it has the fields of the word, as the decoded instruction has. -/
theorem format_wellFormed_of_mem_readings {p : Params} {w : Word} {i : Instr} (h : i ∈ readings p w) :
    i.format = (decode p w).format ∧ i.wellFormed p = true := by
  rcases mem_readings.mp h with rfl | ⟨hw, hrow⟩
  · exact ⟨rfl, (decode_wellFormed_primary p w).1⟩
  · rw [format_decode_of_cInstr hw]
    rcases hrow with ⟨⟨hv, he⟩, rfl⟩ | rfl | rfl
    · exact ⟨by rw [Instr.format, fieldsOf, he], by simp [Instr.wellFormed, hv]⟩
    · exact destRow_format_wellFormed p (fieldsOf w)
    · exact jumpRow_format_wellFormed p (fieldsOf w)

/-- A row that is not primary is the destination row, the jump row or the standard path of its own fields. -/
theorem row_of_not_primary {p : Params} {i : Instr} {f : CFields} (hf : i.format = .cInstr f)
    (hwf : i.wellFormed p = true) (hprim : i.primary = false) :
    (p.variant = .extended ∧ f.e = 0b11#2) ∧ i = .standardPath f.a f.c f.d f.j ∨ i = destRow f ∨ i = jumpRow f := by
  cases i with
  | destNone | destM | destD | destMD | destA | destAM | destAD | destAMD => cases hf; exact .inr (.inl rfl)
  | jumpNone | jumpJGT | jumpJEQ | jumpJGE | jumpJLT | jumpJNE | jumpJLE | jumpJMP => cases hf; exact .inr (.inr rfl)
  | standardPath =>
    cases hf
    exact .inl ⟨⟨by simpa [Instr.wellFormed] using hwf, rfl⟩, rfl⟩
  | _ => cases hprim

theorem mem_readings_encode {p : Params} {i : Instr} (hwf : i.wellFormed p = true) : i ∈ readings p (encode i) := by
  rw [mem_readings]
  cases hprim : i.primary with
  | true => exact .inl (decode_encode hwf hprim).symm
  | false =>
    cases hf : i.format with
    | aInstr v => rw [eq_atValue_of_format hf] at hprim; cases hprim
    | cInstr f =>
      rw [encode_of_cInstr hf, fieldE_encodeC, fieldA_encodeC, fieldC_encodeC, fieldD_encodeC, fieldJ_encodeC,
        fieldsOf_encodeC]
      exact .inr ⟨encodeC_class f, row_of_not_primary hf hwf hprim⟩

end Sys2Proof

namespace Sys2Proof.Machine

/-- The meaning of an instruction is its format's. -/
theorem exec_congr {i i' : Instr} (h : i.format = i'.format) (s : State) : exec i s = exec i' s := by
  rw [exec_eq, exec_eq, h]

/-- Settles O6: a row is read back from its own word as the decoded row or as one of the rows that name a field, and
all readings of a word have its format, which fixes both the word and the tick. -/
theorem everyRowIsAReading : Obligations.EveryRowIsAReading := by
  refine ⟨fun _ _ => mem_readings_encode, fun p w i h => ?_⟩
  obtain ⟨hformat, hwf⟩ := format_wellFormed_of_mem_readings h
  exact ⟨(encode_congr hformat).trans (encode_decode p w), hwf, exec_congr hformat⟩

/-! ### The Standard variant and bits 14 and 13 -/

theorem execC_e_of_standard {s : State} (hv : s.params.variant = .standard) (f : CFields) (e : BitVec 2) :
    execC { f with e := e } s = execC f s := by
  have hx : needsX s.params { f with e := e } = needsX s.params f := by simp only [needsX, hv]
  have hy : needsY s.params { f with e := e } = needsY s.params f := by simp only [needsY, hv]
  have hout : resultC { f with e := e } s = resultC f s := by simp only [resultC, yOperand, functionUnit, hv, hy]
  have hfault : faultC { f with e := e } s = faultC f s := by
    unfold faultC readsM
    rw [hx, hy, hout]
  have htrace : traceC { f with e := e } s = traceC f s := by
    unfold traceC readsM
    rw [hy]
  simp only [execC, hfault, htrace, hout]

/-- Settles O7: the two words have the same fields but for `e`, on which no part of a Standard tick depends. -/
theorem standardIgnoresBits14And13 : Obligations.StandardIgnoresBits14And13 := by
  intro s w w' hv hw hbits
  have hw' : w'.getLsbD 15 = true := (hbits 15 (by decide) (by decide)).trans hw
  have hc : fieldC w' = fieldC w := by
    apply BitVec.eq_of_getLsbD_eq
    intro i hi
    simp (disch := omega) only [fieldC, BitVec.getLsbD_extractLsb', hbits]
  have hfields : fieldsOf w' = { fieldsOf w with e := fieldE w' } := by
    simp (disch := decide) only [fieldsOf, hc, fieldA, fieldD, fieldJ, hbits]
  rw [exec_of_cInstr (format_decode_of_cInstr hw' _), exec_of_cInstr (format_decode_of_cInstr hw _), hfields,
    execC_e_of_standard hv]

/-! ### No destination and no jump -/

/-- A read of M touches the host's side of the state alone. -/
theorem traceC_eq (f : CFields) (s : State) :
    traceC f s = { s with draws := (traceC f s).draws, events := (traceC f s).events } := by
  unfold traceC State.readM
  repeat' split
  all_goals rfl

theorem commit_of_no_dest_no_jump (out : Word) (s : State) :
    commit ⟨false, false, false⟩ ⟨false, false, false⟩ out s = s.advance false := rfl

/-- Settles O29: the tick commits nothing but the PC, after a read that leaves at most its trace. -/
theorem noOpOnlyAdvances : Obligations.NoOpOnlyAdvances := by
  intro s i f hf hd hj hready
  have hexec := exec_of_ready hf hready
  rw [hd, hj, commit_of_no_dest_no_jump] at hexec
  refine ⟨_, hexec, ?_, fun hread => ?_⟩
  · rw [traceC_eq]
    rfl
  · rw [State.advance_draws, State.advance_events, traceC_draws, traceC_events]
    rcases hread with h | h <;> simp [h]

/-- Settles O3: the decoder evaluated on twelve words, and three words whose rows name a destination, a jump and the
standard path. -/
theorem sampleWordsDecode : Obligations.SampleWordsDecode :=
  ⟨rfl, rfl, rfl, rfl, rfl, rfl, rfl, rfl, rfl, rfl, rfl, rfl,
    mem_readings.mpr (.inr ⟨rfl, .inr (.inl rfl)⟩), mem_readings.mpr (.inr ⟨rfl, .inr (.inr rfl)⟩),
    mem_readings.mpr (.inr ⟨rfl, .inl ⟨⟨rfl, rfl⟩, rfl⟩⟩)⟩

end Sys2Proof.Machine

/-! The gates, the select circuits and the netlists (spec 40_primitives.md R120 to R132; 60_exceptions.md R376). -/

namespace Sys2Proof.Machine

/-! ### The 1-bit gates -/

theorem nandGate_self (a : Bool) : nandGate a a = notGate a := by
  rw [nandGate, notGate, Bool.and_self]

theorem notGate_nandGate (a b : Bool) : notGate (nandGate a b) = andGate a b := by
  rw [notGate, nandGate, andGate, Bool.not_not]

theorem nandGate_notGate (a b : Bool) : nandGate (notGate a) (notGate b) = orGate a b := by
  rw [nandGate, notGate, notGate, orGate, Bool.not_and, Bool.not_not, Bool.not_not]

/-- Settles O50: a NAND of one signal with itself is Not, Not of a NAND is And, a NAND of negations is Or (De Morgan); Xor,
Mux and DMux are cases on one input. -/
theorem gatesFromNand : Obligations.GatesFromNand := by
  intro a b sel
  refine ⟨(nandGate_self a).symm, ?_, ?_, ?_, ?_, ?_⟩
  · rw [nandGate_self, notGate_nandGate]
  · rw [nandGate_self, nandGate_self, nandGate_notGate]
  · cases a <;> simp [xorGate, nandGate]
  · cases sel <;> simp [muxGate, nandGate]
  · cases sel <;> simp [dmuxGate, andGate, notGate]

/-! ### The bus gates and the wide gates -/

theorem getLsbD_muxBus {w : Nat} (u v : BitVec w) (sel : Bool) (i : Nat) :
    (muxBus u v sel).getLsbD i = muxGate (u.getLsbD i) (v.getLsbD i) sel := by
  cases sel <;> rfl

theorem orNWay_eq_false_iff {n : Nat} {v : BitVec n} : orNWay v = false ↔ v = 0#n := by
  simp [orNWay, BitVec.eq_of_getLsbD_eq_iff]

theorem andNWay_eq_true_iff {n : Nat} {v : BitVec n} : andNWay v = true ↔ v = BitVec.allOnes n := by
  simp +contextual [andNWay, BitVec.eq_of_getLsbD_eq_iff]

/-- 40_primitives.md R128, 42_alu.md R195: `zr` is built from the wide Or. -/
theorem flagZr_eq (out : Word) : flagZr out = notGate (orNWay out) := by
  rw [Bool.eq_iff_iff, notGate, Bool.not_eq_true', orNWay_eq_false_iff, flagZr, beq_iff_eq]

/-- Settles O51: a bus gate is its 1-bit gate on each bit, and a wide gate asks whether the bus has a 1, or a 0. -/
theorem wideGates : Obligations.WideGates :=
  ⟨fun _ u v sel i hi =>
    ⟨by rw [notBus, BitVec.getLsbD_not, decide_eq_true hi, Bool.true_and, notGate],
      BitVec.getLsbD_and, BitVec.getLsbD_or, getLsbD_muxBus u v sel i⟩,
    fun _ _ => ⟨orNWay_eq_false_iff, andNWay_eq_true_iff⟩, flagZr_eq⟩

/-! ### Multiplexers and demultiplexers -/

theorem muxKWay_dmuxKWay {α : Type} {b : Nat} (zero inp : α) (sel sel' : BitVec b) :
    muxKWay (dmuxKWay zero inp sel) sel' = if sel' = sel then inp else zero := by
  simp only [muxKWay, getElem_dmuxKWay, BitVec.toNat_inj]

theorem eq_toNat_of_getElem_dmuxKWay {b : Nat} {load : Bool} {sel : BitVec b} {i : Fin (2 ^ b)}
    (h : (dmuxKWay false load sel)[i] = true) : i.val = sel.toNat := by
  by_contra hne
  rw [Fin.getElem_fin, getElem_dmuxKWay, if_neg hne] at h
  cases h

/-- Settles O52: the select bits of both sides name the same line or not, and a line that is 1 is the selected one. -/
theorem muxOfDMux : Obligations.MuxOfDMux := by
  refine ⟨fun _ => muxKWay_dmuxKWay 0#16, fun _ _ _ _ _ hi hj => Fin.ext ?_, fun u v sel => ?_⟩
  · rw [eq_toNat_of_getElem_dmuxKWay hi, eq_toNat_of_getElem_dmuxKWay hj]
  · cases sel <;> rfl

/-! ### Netlists: the signals that settle -/

section
variable {n : Nat} {nl : Netlist n}

theorem Netlist.settles_zero {i : Fin n} (h : nl.settles 0 i = true) (x y : Fin n) : nl.nodes[i] ≠ .nand x y := by
  intro hi
  unfold Netlist.settles at h
  rw [hi] at h
  cases h

theorem Netlist.settles_succ_nand {i x y : Fin n} (hi : nl.nodes[i] = .nand x y) (depth : Nat) :
    nl.settles (depth + 1) i = (nl.settles depth x && nl.settles depth y) := by
  rw [Netlist.settles_succ, hi]

theorem Netlist.settles_of_not_nand {i : Fin n} (hi : ∀ x y, nl.nodes[i] ≠ .nand x y) (depth : Nat) :
    nl.settles depth i = true := by
  unfold Netlist.settles
  cases h : nl.nodes[i] with
  | input _ => rfl
  | dff _ => rfl
  | nand x y => exact absurd h (hi x y)

theorem Netlist.acyclic_iff : nl.acyclic = true ↔ ∀ i, nl.settles n i = true := by
  simp [Netlist.acyclic]

/-! ### The signals of a composed netlist -/

/-- What node `i` drives when the signals are `v`: the right side of its equation (40_primitives.md R131). -/
def Netlist.drive (nl : Netlist n) (inp : Nat → Bool) (cur v : Fin n → Bool) (i : Fin n) : Bool :=
  match nl.nodes[i] with
  | .input k => inp k
  | .dff _ => cur i
  | .nand x y => nandGate (v x) (v y)

theorem Netlist.value_succ_eq_drive (nl : Netlist n) (inp : Nat → Bool) (cur : Fin n → Bool) (depth : Nat) :
    nl.value inp cur (depth + 1) = nl.drive inp cur (nl.value inp cur depth) :=
  funext (nl.value_succ inp cur depth)

theorem Netlist.drive_eq_value_zero {i : Fin n} (hi : ∀ x y, nl.nodes[i] ≠ .nand x y) (inp : Nat → Bool)
    (cur v : Fin n → Bool) : nl.drive inp cur v i = nl.value inp cur 0 i := by
  unfold Netlist.drive Netlist.value
  cases h : nl.nodes[i] with
  | input _ => rfl
  | dff _ => rfl
  | nand x y => exact absurd h (hi x y)

/-- Evaluating the nodes again and again, from any signals, gives a signal its value once it settles. -/
theorem Netlist.eq_value_of_settles {inp : Nat → Bool} {cur : Fin n → Bool} {run : Nat → Fin n → Bool}
    (hrun : ∀ depth, run (depth + 1) = nl.drive inp cur (run depth)) {depth : Nat} {i : Fin n}
    (h : nl.settles depth i = true) : run (depth + 1) i = nl.value inp cur depth i := by
  induction depth generalizing i with
  | zero => rw [hrun, Netlist.drive_eq_value_zero (Netlist.settles_zero h)]
  | succ depth ih =>
    rw [hrun, Netlist.value_succ_eq_drive, Netlist.drive, Netlist.drive]
    cases hi : nl.nodes[i] with
    | input _ => rfl
    | dff _ => rfl
    | nand x y =>
      rw [Netlist.settles_succ_nand hi, Bool.and_eq_true] at h
      exact congrArg₂ nandGate (ih h.1) (ih h.2)

theorem Composed.eq_drive_iff (c : Composed n) (inp : Nat → Bool) (cur v : Fin n → Bool) :
    v = c.netlist.drive inp cur v ↔ v = c.signal inp cur := by
  have hsettles := Netlist.acyclic_iff.mp c.acyclic
  constructor
  · intro hv
    exact funext fun i => Netlist.eq_value_of_settles (run := fun _ => v) (fun _ => hv) (hsettles i)
  · rintro rfl
    have hstable : c.netlist.value inp cur (n + 1) = c.signal inp cur :=
      funext fun i => Netlist.eq_value_of_settles (c.netlist.value_succ_eq_drive inp cur) (hsettles i)
    exact hstable.symm.trans (c.netlist.value_succ_eq_drive inp cur n)

/-! ### Loops through gates alone -/

/-- Feedback through gates alone (40_primitives.md R132): a set of gates each with an input from the set. -/
def Netlist.IsLoop (nl : Netlist n) (loop : Fin n → Bool) : Prop :=
  ∀ i, loop i = true → ∃ x y, nl.nodes[i] = .nand x y ∧ (loop x = true ∨ loop y = true)

theorem Netlist.IsLoop.settles_eq_false {loop : Fin n → Bool} (hloop : nl.IsLoop loop) (depth : Nat) {i : Fin n}
    (hi : loop i = true) : nl.settles depth i = false := by
  induction depth generalizing i with
  | zero =>
    obtain ⟨x, y, hnode, -⟩ := hloop i hi
    exact eq_false_of_ne_true fun h => Netlist.settles_zero h x y hnode
  | succ depth ih =>
    obtain ⟨x, y, hnode, hxy⟩ := hloop i hi
    rw [Netlist.settles_succ_nand hnode, Bool.and_eq_false_iff]
    exact hxy.imp ih ih

theorem Netlist.settles_mono {depth : Nat} {i : Fin n} (h : nl.settles depth i = true) :
    nl.settles (depth + 1) i = true := by
  induction depth generalizing i with
  | zero => exact Netlist.settles_of_not_nand (Netlist.settles_zero h) 1
  | succ depth ih =>
    cases hi : nl.nodes[i] with
    | input _ | dff _ => exact Netlist.settles_of_not_nand (by simp [hi]) _
    | nand x y =>
      rw [Netlist.settles_succ_nand hi, Bool.and_eq_true] at h ⊢
      exact h.imp ih ih

/-- The signals that settle within `depth` gates. -/
def Netlist.settled (nl : Netlist n) (depth : Nat) : Finset (Fin n) := {i | nl.settles depth i = true}

theorem Netlist.mem_settled {depth : Nat} {i : Fin n} : i ∈ nl.settled depth ↔ nl.settles depth i = true := by
  simp [Netlist.settled]

theorem Netlist.settled_mono (nl : Netlist n) : Monotone nl.settled :=
  monotone_nat_of_le_succ fun _ _ h => Netlist.mem_settled.mpr (Netlist.settles_mono (Netlist.mem_settled.mp h))

theorem Netlist.settled_succ_congr {d d' : Nat} (h : nl.settled d = nl.settled d') :
    nl.settled (d + 1) = nl.settled (d' + 1) := by
  have hsettles : nl.settles d = nl.settles d' := funext fun i => by
    rw [Bool.eq_iff_iff, ← Netlist.mem_settled, h, Netlist.mem_settled]
  ext i
  rw [Netlist.mem_settled, Netlist.mem_settled, Netlist.settles_succ, Netlist.settles_succ, hsettles]

/-- The pigeonhole of R132: each depth at which the settled signals grow adds one of the `n`, so they are complete at `n`. -/
theorem Netlist.settled_stable (nl : Netlist n) : nl.settled n = nl.settled (n + 1) := by
  have hcard_eq {d : Nat} (h : (nl.settled d).card = (nl.settled (d + 1)).card) :
      nl.settled d = nl.settled (d + 1) :=
    Finset.eq_of_subset_of_card_le (nl.settled_mono d.le_succ) h.ge
  have hstable : (nl.settled (n + 1)).card = (nl.settled n).card :=
    Nat.stabilises_of_monotone (Finset.card_mono.comp nl.settled_mono)
      (fun d => (Finset.card_le_univ _).trans_eq (Fintype.card_fin n))
      (fun d h => congrArg Finset.card (Netlist.settled_succ_congr (hcard_eq h))) n.le_succ
  exact hcard_eq hstable.symm

/-- The signals that never settle feed each other. -/
theorem Netlist.isLoop_not_settles (nl : Netlist n) : nl.IsLoop fun i => !nl.settles n i := by
  intro i hi
  rw [Bool.not_eq_true'] at hi
  have hsucc : nl.settles (n + 1) i = false := by
    rw [← Bool.not_eq_true, ← Netlist.mem_settled, ← nl.settled_stable, Netlist.mem_settled, Bool.not_eq_true, hi]
  cases hnode : nl.nodes[i] with
  | input _ | dff _ =>
    rw [Netlist.settles_of_not_nand (by simp [hnode])] at hi
    cases hi
  | nand x y =>
    rw [Netlist.settles_succ_nand hnode, Bool.and_eq_false_iff] at hsucc
    exact ⟨x, y, rfl, by simpa using hsucc⟩

theorem Netlist.acyclic_eq_false_iff :
    nl.acyclic = false ↔ ∃ loop : Fin n → Bool, (∃ i, loop i = true) ∧ nl.IsLoop loop := by
  rw [← Bool.not_eq_true, Netlist.acyclic_iff]
  constructor
  · intro h
    obtain ⟨i, hi⟩ := not_forall.mp h
    exact ⟨_, ⟨i, by simpa using hi⟩, nl.isLoop_not_settles⟩
  · rintro ⟨loop, ⟨i, hi⟩, hloop⟩ h
    exact Bool.false_ne_true ((hloop.settles_eq_false n hi).symm.trans (h i))

end

/-- Settles O53: by evaluating the nodes `n + 1` times from any solution, or from the computed signals, every signal gets
its value, since in a composed netlist every signal settles within `n` gates. -/
theorem composedNetlistHasOneSolution : Obligations.ComposedNetlistHasOneSolution :=
  fun _ c inp cur v => funext_iff.symm.trans (c.eq_drive_iff inp cur v)

/-- Settles O54: composition refuses what is not acyclic; gates that feed each other never settle, and the signals that
have not settled within `n` gates are such a set. -/
theorem combinationalCycleRefused : Obligations.CombinationalCycleRefused := by
  intro n nl
  refine Iff.trans ?_ nl.acyclic_eq_false_iff
  cases h : nl.acyclic <;> simp [Netlist.compose, h]

end Sys2Proof.Machine

/-! The arithmetic chips (spec 41_arithmetic.md R160 to R169): each chip's structure computes the word operation that gives
its integer law. The adder's equation is `add16_eq_add`. -/

namespace Sys2Proof.Machine

/-! ### The adders -/

theorem halfAdder_sum : ∀ a b, 2 * (halfAdder a b).2.toNat + (halfAdder a b).1.toNat = a.toNat + b.toNat := by
  decide

theorem fullAdder_sum :
    ∀ a b c, 2 * (fullAdder a b c).2.toNat + (fullAdder a b c).1.toNat = a.toNat + b.toNat + c.toNat := by
  decide

/-- Settles O47: the cells by their truth tables, the ripple-carry adder and the incrementer as word addition. -/
theorem adderLaws : Obligations.AdderLaws :=
  ⟨halfAdder_sum, fullAdder_sum, fun a b =>
    ⟨by rw [add16_eq_add, BitVec.toNat_add],
      by rw [add16_eq_add, BitVec.ofInt_add, BitVec.ofInt_toInt, BitVec.ofInt_toInt],
      by rw [inc16_eq_add_one, BitVec.toNat_add]; rfl⟩⟩

/-! ### The shifters -/

/-- 41_arithmetic.md R165: the wires of the right shifter. -/
theorem shiftRightChip_eq_shiftRight (v : Word) : shiftRightChip v = shiftRight v := by
  apply BitVec.eq_of_getLsbD_eq
  intro i hi
  rw [shiftRightChip, shiftRight, getLsbD_busOfBits, BitVec.getLsbD_sshiftRight, BitVec.msb_eq_getLsbD_last]
  rcases Nat.lt_or_eq_of_le (Nat.le_of_lt_succ hi) with hlow | rfl
  · rw [Nat.add_comm 1 i, if_pos (Nat.succ_lt_succ hlow), if_neg hlow.ne, decide_eq_true hi,
      decide_eq_false (Nat.not_le_of_lt hi), Bool.not_false]
  · rfl

theorem toInt_shiftRight (v : Word) : (shiftRight v).toInt = v.toInt / 2 := by
  rw [shiftRight, BitVec.toInt_sshiftRight, Int.shiftRight_eq_div_pow]
  rfl

theorem shiftLeft_false (v : Word) : shiftLeft false v = v <<< 1 := if_neg Bool.false_ne_true

theorem shiftLeft_true (v : Word) : shiftLeft true v = (v &&& 0x8000#16) ||| ((v <<< 1) &&& 0x7FFF#16) := if_pos rfl

theorem getLsbD_signMask {i : Nat} (hi : i < 16) : (0x8000#16).getLsbD i = decide (i = 15) := by
  revert i
  decide

theorem getLsbD_lowMask {i : Nat} (hi : i < 16) : (0x7FFF#16).getLsbD i = decide (i < 15) := by
  revert i
  decide

/-- 41_arithmetic.md R166: the wires of the left shifter. -/
theorem shiftLeftChip_eq_shiftLeft (keep : Bool) (v : Word) : shiftLeftChip keep v = shiftLeft keep v := by
  apply BitVec.eq_of_getLsbD_eq
  intro i hi
  rw [shiftLeftChip, getLsbD_busOfBits]
  cases keep with
  | false =>
    rw [shiftLeft_false, BitVec.getLsbD_shiftLeft]
    cases i <;> simp [hi]
  | true =>
    rw [shiftLeft_true, BitVec.getLsbD_or, BitVec.getLsbD_and, BitVec.getLsbD_and, getLsbD_signMask hi,
      getLsbD_lowMask hi, BitVec.getLsbD_shiftLeft]
    rcases Nat.lt_or_eq_of_le (Nat.le_of_lt_succ hi) with hlow | rfl
    · cases i with
      | zero => simp
      | succ i => simp [hi, hlow, show i ≠ 14 by omega]
    · simp

/-- 41_arithmetic.md R167: the wires of the multiplier's shifter. -/
theorem lslChip_eq_shl (v : Word) (i : Nat) : lslChip v i = v <<< i := by
  apply BitVec.eq_of_getLsbD_eq
  intro k hk
  rw [lslChip, getLsbD_busOfBits, BitVec.getLsbD_shiftLeft]
  by_cases hik : i ≤ k <;> simp [hik, hk]

theorem toNat_lslChip (v : Word) (i : Nat) : (lslChip v i).toNat = (v.toNat * 2 ^ i) % 2 ^ 16 := by
  rw [lslChip_eq_shl, BitVec.toNat_shiftLeft, Nat.shiftLeft_eq]

theorem toNat_shl_one (v : Word) : (v <<< 1).toNat = (2 * v.toNat) % 2 ^ 16 := by
  rw [BitVec.toNat_shiftLeft, Nat.shiftLeft_eq, Nat.pow_one, Nat.mul_comm]

theorem toNat_shiftLeft_false (v : Word) : (shiftLeft false v).toNat = (2 * v.toNat) % 2 ^ 16 := by
  rw [shiftLeft_false, toNat_shl_one]

theorem toNat_shiftLeft_true (v : Word) :
    (shiftLeft true v).toNat = 2 ^ 15 * (v.getLsbD 15).toNat + (2 * v.toNat) % 2 ^ 15 := by
  have hsign : (v &&& 0x8000#16).toNat = 2 ^ 15 * (v.getLsbD 15).toNat := by
    rw [show (0x8000#16) = BitVec.twoPow 16 15 from rfl, BitVec.and_twoPow]
    cases v.getLsbD 15 <;> rfl
  have hrest : ((v <<< 1) &&& 0x7FFF#16).toNat = (2 * v.toNat) % 2 ^ 15 := by
    rw [BitVec.toNat_and, toNat_shl_one]
    exact (Nat.and_two_pow_sub_one_eq_mod _ 15).trans (Nat.mod_mod_of_dvd _ (by decide))
  rw [shiftLeft_true, BitVec.toNat_or, hsign, hrest, ← Nat.two_pow_add_eq_or_of_lt (Nat.mod_lt _ (by decide))]

/-- Settles O48: each shifter's wires are the bits of a shifted word, and the words' values follow; with the sign kept, bit
15 and the doubled low bits do not meet. -/
theorem shifterLaws : Obligations.ShifterLaws := fun v =>
  ⟨shiftRightChip_eq_shiftRight v, toInt_shiftRight v, fun keep => shiftLeftChip_eq_shiftLeft keep v,
    toNat_shiftLeft_false v, toNat_shiftLeft_true v, fun i _ => toNat_lslChip v i⟩

/-! ### The multiplier -/

/-- A partial product of R168 is the product by one bit of `y`. -/
theorem partialProduct_eq_mul (x y : Word) (i : Nat) : partialProduct x y i = x * (y &&& BitVec.twoPow 16 i) := by
  rw [partialProduct, BitVec.and_twoPow, lslChip_eq_shl]
  split
  · rw [BitVec.mul_twoPow_eq_shiftLeft]
  · rw [BitVec.mul_zero]

/-- The first `n` partial products sum to the product by the low `n` bits of `y`. -/
theorem partialSum_eq_mul (x y : Word) (n : Nat) : partialSum x y n = x * (y.setWidth n).setWidth 16 := by
  induction n with
  | zero =>
    rw [partialSum, BitVec.eq_nil (y.setWidth 0)]
    exact BitVec.mul_zero.symm
  | succ n ih =>
    rw [partialSum, add16_eq_add, ih, partialProduct_eq_mul, ← BitVec.mul_add,
      BitVec.setWidth_setWidth_succ_eq_setWidth_setWidth_add_twoPow]

theorem mulChip_eq_mul (x y : Word) : mulChip x y = x * y := by
  rw [mulChip, partialSum_eq_mul, BitVec.setWidth_eq, BitVec.setWidth_eq]

/-- Settles O49: shift and add is word multiplication, which reads as the truncated product, unsigned and signed. -/
theorem multiplierLaw : Obligations.MultiplierLaw := fun x y => by
  rw [mulChip_eq_mul]
  exact ⟨BitVec.toNat_mul x y, by rw [BitVec.ofInt_mul, BitVec.ofInt_toInt, BitVec.ofInt_toInt], rfl⟩

end Sys2Proof.Machine

/-! The function units (spec 42_alu.md R190 to R205): the closed forms of the ALU's codes, the flags as conditions on the
signed result, and the Extended ALU's two selectors as fields of its code. -/

namespace Sys2Proof.Machine

/-! ### The ALU's codes -/

/-- Settles O9: each code's control bits make its result a word expression in `x`, `y`, 0 and complements. With `f = 0` it is
a Boolean one, closed by De Morgan's laws and the laws of 0 and all ones under `&&&`; with `f = 1` it is a sum, and there the
complement of `v` is `-v - 1`, so both sides are equal as ring expressions. -/
theorem aluClosedForms : Obligations.AluClosedForms := by
  intro x y
  simp only [aluOut, BitVec.reduceGetLsb, Bool.false_eq_true, if_true, if_false]
  -- the codes with `f = 0`; a summand 0 goes as well
  simp only [BitVec.not_and, BitVec.not_or, BitVec.not_not, BitVec.not_zero, BitVec.not_allOnes,
    BitVec.neg_one_eq_allOnes, BitVec.and_self, BitVec.zero_and, BitVec.and_zero, BitVec.allOnes_and, BitVec.and_allOnes,
    BitVec.zero_add, BitVec.add_zero, true_and]
  -- the codes with `f = 1`
  have htwo : 2#16 = 1#16 + 1#16 := rfl
  simp only [BitVec.not_eq_neg_add, ← BitVec.neg_one_eq_allOnes, htwo]
  and_intros <;> ring

/-! ### The flags -/

theorem flagZr_iff {out : Word} : flagZr out = true ↔ out = 0#16 := beq_iff_eq

theorem flagNg_iff {out : Word} : flagNg out = true ↔ out.toInt < 0 := by
  rw [flagNg, ← BitVec.msb_eq_getLsbD_last, BitVec.msb_eq_toInt, decide_eq_true_iff]

theorem flagPos_iff {out : Word} : flagPos out = true ↔ 0 < out.toInt := by
  have hzero : out.toInt = 0 ↔ out = 0#16 := BitVec.toInt_inj (y := 0#16)
  rw [flagPos, Bool.not_eq_true', Bool.or_eq_false_iff, ← Bool.not_eq_true, ← Bool.not_eq_true, flagZr_iff, flagNg_iff,
    ← hzero]
  omega

/-- 42_alu.md R199: `zr` and `ng` exclude each other. -/
theorem flagNg_eq_false_of_flagZr {out : Word} (h : flagZr out = true) : flagNg out = false := by
  rw [flagZr_iff.mp h]
  rfl

theorem toNat_flags_sum (out : Word) : (flagNg out).toNat + (flagZr out).toNat + (flagPos out).toNat = 1 := by
  rw [flagPos]
  cases hz : flagZr out with
  | true => rw [flagNg_eq_false_of_flagZr hz]; rfl
  | false => cases flagNg out <;> rfl

/-- Settles O10: the flags by the sign of the result; the ALU's outputs are the flags of its result. -/
theorem flagLaws : Obligations.FlagLaws :=
  ⟨fun out => ⟨flagZr_iff, flagNg_iff, flagPos_iff, toNat_flags_sum out⟩, fun _ _ _ => ⟨rfl, rfl⟩⟩

/-! ### The Extended ALU -/

/-- 42_alu.md R203: the low six bits of the code are the ALU's bits. -/
theorem getLsbD_extCode_of_lt {i : Nat} (hi : i < 6) (f : CFields) : (extCode f).getLsbD i = f.c.getLsbD i :=
  BitVec.getLsbD_append.trans (if_pos hi)

theorem getLsbD_six_extCode (f : CFields) : (extCode f).getLsbD 6 = f.a :=
  BitVec.getLsbD_append.trans <| (if_neg (by decide)).trans <|
    BitVec.getLsbD_append.trans <| (if_pos (by decide)).trans (by simp)

theorem getLsbD_selectorB (lo : SelBLo) (ext : BitVec 9) {i : Nat} (hi : i < 2) : (selectorB lo ext).getLsbD i =
    if lo = .four then ext.getLsbD (4 + i) else ext.getLsbD (5 + i) := by
  cases lo <;> simp [selectorB, hi]

/-- 42_alu.md R202: bit 0 of selector B, the shift's operand, is a bit of the code's ALU bits. -/
theorem getLsbD_zero_selectorB_extCode (lo : SelBLo) (f : CFields) : (selectorB lo (extCode f)).getLsbD 0 =
    if lo = .four then f.c.getLsbD 4 else f.c.getLsbD 5 := by
  rw [getLsbD_selectorB lo _ (by decide), getLsbD_extCode_of_lt (by decide), getLsbD_extCode_of_lt (by decide)]

/-- 42_alu.md R202: bit 1 of selector B, the shift's direction, is an ALU bit, or `a` with `EXT_SELB_LO = 5`. -/
theorem getLsbD_one_selectorB_extCode (lo : SelBLo) (f : CFields) : (selectorB lo (extCode f)).getLsbD 1 =
    if lo = .four then f.c.getLsbD 5 else f.a := by
  rw [getLsbD_selectorB lo _ (by decide), getLsbD_extCode_of_lt (by decide), getLsbD_six_extCode]

theorem extAluOut_extCode_of_mul {f : CFields} (h3 : f.e ≠ 0b11#2) (h1 : f.e ≠ 0b01#2) (p : Params) (x y : Word) :
    extAluOut p x y (extCode f) = x * y := by
  rw [extAluOut, extractLsb'_selA_extCode, if_neg h3, if_neg h1, mul]

theorem extAluOut_extCode_of_shift {f : CFields} (h1 : f.e = 0b01#2) (p : Params) (x y : Word) :
    extAluOut p x y (extCode f) = shiftOut p x y (extCode f) := by
  rw [extAluOut, extractLsb'_selA_extCode, h1, if_neg (by decide), if_pos rfl]

theorem extAluOut_extCode_of_standard {f : CFields} (h3 : f.e = 0b11#2) (p : Params) (x y : Word) :
    extAluOut p x y (extCode f) = aluOut x y f.c := by
  rw [extAluOut, extractLsb'_selA_extCode, extractLsb'_c_extCode, if_pos h3]

/-- 42_alu.md R202: the shift path by the fields of the code. -/
theorem shiftOut_extCode (p : Params) (x y : Word) (f : CFields) : shiftOut p x y (extCode f) =
    if (if p.extSelBLo = .four then f.c.getLsbD 5 else f.a) then
      shiftLeft p.aslKeepsSign (if (if p.extSelBLo = .four then f.c.getLsbD 4 else f.c.getLsbD 5) then x else y)
    else (if (if p.extSelBLo = .four then f.c.getLsbD 4 else f.c.getLsbD 5) then x else y).sshiftRight 1 := by
  simp only [shiftOut, getLsbD_zero_selectorB_extCode, getLsbD_one_selectorB_extCode, shiftRight]

/-- Settles O11: the code is that of a C-instruction with these fields, so selector A picks the path, selector B the
shift, and the flags are those of the selected output. -/
theorem extendedAluByCase : Obligations.ExtendedAluByCase := by
  intro p x y selA a c
  let f : CFields := ⟨selA, a, c, ⟨false, false, false⟩, ⟨false, false, false⟩⟩
  refine ⟨fun h => ?_, fun h => ?_, fun h => ?_, flagZr_iff, flagNg_iff⟩
  · have h3 : selA ≠ 0b11#2 := by rcases h with rfl | rfl <;> decide
    have h1 : selA ≠ 0b01#2 := by rcases h with rfl | rfl <;> decide
    exact extAluOut_extCode_of_mul (f := f) h3 h1 p x y
  · exact (extAluOut_extCode_of_shift (f := f) h p x y).trans (shiftOut_extCode p x y f)
  · exact congrArg withFlags (extAluOut_extCode_of_standard (f := f) h p x y)

end Sys2Proof.Machine

/-! The CPU's cycle (spec 43_cpu_cycle.md R225 to R237; 60_exceptions.md R372 to R375; 70_reset_and_hazards.md R400 to
R402): which operands a C-instruction needs, its fault as the fault of an operand or else of a target, what `reset` changes,
and the data memory as the ports drive it. -/

namespace Sys2Proof.Machine

/-! ### The needs of each path, and the function unit on it (R225, R236) -/

theorem functionUnit_of_standardPath {p : Params} {f : CFields} (h : p.variant = .standard ∨ f.e = 0b11#2)
    (x y : Word) : functionUnit p f x y = alu x y f.c := by
  cases hv : p.variant with
  | standard => simp only [functionUnit, hv]
  | extended =>
    have h3 : f.e = 0b11#2 := by simpa [hv] using h
    simp only [functionUnit, hv, extAlu, extAluOut_extCode_of_standard h3, alu]

theorem functionUnit_of_shift {p : Params} {f : CFields} (hv : p.variant = .extended) (h1 : f.e = 0b01#2) (x y : Word) :
    functionUnit p f x y = withFlags (shiftOut p x y (extCode f)) := by
  simp only [functionUnit, hv, extAlu, extAluOut_extCode_of_shift h1]

theorem needs_of_standardPath {p : Params} {f : CFields} (h : p.variant = .standard ∨ f.e = 0b11#2) :
    needsX p f = !f.c.getLsbD 5 ∧ needsY p f = !f.c.getLsbD 3 := by
  unfold needsX needsY
  cases hv : p.variant with
  | standard => exact ⟨rfl, rfl⟩
  | extended =>
    have h3 : f.e = 0b11#2 := by simpa [hv] using h
    exact ⟨if_pos h3, if_pos h3⟩

theorem needs_of_mul {p : Params} {f : CFields} (hv : p.variant = .extended) (h3 : f.e ≠ 0b11#2)
    (h1 : f.e ≠ 0b01#2) : needsX p f = true ∧ needsY p f = true := by
  simp only [needsX, needsY, hv, if_neg h3, if_neg h1, and_self]

theorem needs_of_shift {p : Params} {f : CFields} (hv : p.variant = .extended) (h1 : f.e = 0b01#2) :
    needsX p f = (selectorB p.extSelBLo (extCode f)).getLsbD 0 ∧
      needsY p f = !(selectorB p.extSelBLo (extCode f)).getLsbD 0 := by
  have h3 : f.e ≠ 0b11#2 := by rw [h1]; decide
  simp only [needsX, needsY, hv, if_neg h3, if_pos h1, and_self]

/-- With `zx = 1` the ALU ignores its `x` operand. -/
theorem aluOut_of_zx {c : BitVec 6} (h : c.getLsbD 5 = true) (x x' y : Word) : aluOut x y c = aluOut x' y c := by
  simp only [aluOut, h, if_true]

/-- 43_cpu_cycle.md R236: a D that is not needed does not reach the result. -/
theorem functionUnit_of_not_needsX {p : Params} {f : CFields} (h : needsX p f = false) (x x' y : Word) :
    functionUnit p f x y = functionUnit p f x' y := by
  by_cases hstd : p.variant = .standard ∨ f.e = 0b11#2
  · have hzx : f.c.getLsbD 5 = true := by simpa [needs_of_standardPath hstd] using h
    rw [functionUnit_of_standardPath hstd, functionUnit_of_standardPath hstd, alu, alu, aluOut_of_zx hzx x x' y]
  · obtain ⟨hv, h3⟩ : p.variant = .extended ∧ f.e ≠ 0b11#2 := by cases hv : p.variant <;> simp_all
    by_cases h1 : f.e = 0b01#2
    · have hsel : (selectorB p.extSelBLo (extCode f)).getLsbD 0 = false := (needs_of_shift hv h1).1.symm.trans h
      simp only [functionUnit_of_shift hv h1, shiftOut, hsel, Bool.false_eq_true, if_false]
    · rw [(needs_of_mul hv h3 h1).1] at h
      cases h

/-- Settles O12: the table path by path; two runs that agree on the needed operands are joined by replacing one operand
after the other, each needed, and so equal, or not needed, and so without effect. -/
theorem needsTable : Obligations.NeedsTable := by
  intro p f
  refine ⟨needs_of_standardPath, fun hv he => ?_, fun hv h1 => ?_, fun x x' y y' hx hy => ?_⟩
  · rcases he with he | he <;> exact needs_of_mul hv (by rw [he]; decide) (by rw [he]; decide)
  · rw [← getLsbD_zero_selectorB_extCode]
    exact needs_of_shift hv h1
  · calc functionUnit p f x y = functionUnit p f x' y := by
          cases hnx : needsX p f with
          | true => rw [hx hnx]
          | false => exact functionUnit_of_not_needsX hnx x x' y
      _ = functionUnit p f x' y' := by
          cases hny : needsY p f with
          | true => rw [hy hny]
          | false => exact functionUnit_of_not_needsY hny x' y y'

/-! ### The faults of a tick (R235 to R237) -/

theorem faultC_of_unset_pc {s : State} (h : s.unset.pc = true) (f : CFields) : faultC f s = some (.readUninit .pc) := by
  rw [faultC, if_pos h]

theorem execLiteral_of_unset_pc {s : State} (h : s.unset.pc = true) (v : BitVec 15) :
    execLiteral v s = .fault (.readUninit .pc) := by
  rw [execLiteral, if_pos h]

/-- Settles O55: the tick of either format asks for the PC first. -/
theorem noValueInPcFaults : Obligations.NoValueInPcFaults := by
  intro i s h
  cases hi : i.format with
  | aInstr v => rw [exec_of_aInstr hi, execLiteral_of_unset_pc h]
  | cInstr f => rw [exec_of_cInstr hi, execC_fault, faultC_of_unset_pc h]

/-- The fault of a C-instruction's PC and operands: the part of `faultC` that depends neither on the destination nor on the
jump. -/
def operandFault (f : CFields) (s : State) : Option Fault :=
  if s.unset.pc then some (.readUninit .pc)
  else if needsX s.params f && s.unset.d then some (.readUninit .d)
  else if needsY s.params f && s.unset.a then some (.readUninit .a)
  else if readsM s.params f && s.dataWord.isNone then some (.readUninit .m)
  else none

/-- The fault of a write address or a jump target. -/
def targetFault (d : Dest) (j : Jump) (out : Word) (s : State) : Option Fault :=
  if needsTarget d j out s && s.unset.a then some (.readUninit .a) else none

/-- An operand's fault comes before a target's. -/
theorem faultC_eq (f : CFields) (s : State) :
    faultC f s = (operandFault f s).or (targetFault f.d f.j (resultC f s) s) := by
  unfold faultC operandFault targetFault
  repeat' split
  all_goals rfl

theorem operandFault_eq_none {f : CFields} {s : State} : operandFault f s = none ↔ s.computable f = true := by
  unfold operandFault State.computable
  repeat' split
  all_goals simp_all [imp_iff_not_or, Option.isSome_iff_ne_none]

theorem readsM_of_not_needsY {p : Params} {f : CFields} (h : needsY p f = false) : readsM p f = false := by
  rw [readsM, h, Bool.and_false]

/-- The tick of a C-instruction where the PC holds a value, its faults in the order of R237. `faultC` looks for M before the
target, but M is read only where A is an operand, so A comes before M in every use. -/
theorem execC_of_pc {f : CFields} {s : State} (hpc : s.unset.pc = false) : execC f s =
    if needsX s.params f = true ∧ s.unset.d = true then .fault (.readUninit .d)
    else if s.unset.a = true ∧ (needsY s.params f = true ∨ needsTarget f.d f.j (resultC f s) s = true) then
      .fault (.readUninit .a)
    else if readsM s.params f = true ∧ s.dataWord = none then .fault (.readUninit .m)
    else .next (commit f.d f.j (resultC f s) (traceC f s)) := by
  simp only [execC, faultC_eq, operandFault, targetFault, hpc, ← Option.isNone_iff_eq_none, ← Bool.and_eq_true,
    ← Bool.or_eq_true]
  cases needsX s.params f && s.unset.d with
  | true => rfl
  | false =>
    cases hy : needsY s.params f with
    | true => cases s.unset.a <;> cases readsM s.params f && s.dataWord.isNone <;> simp
    | false =>
      have hm := readsM_of_not_needsY hy
      cases needsTarget f.d f.j (resultC f s) s <;> cases s.unset.a <;> simp [hm]

/-- Settles O35: the faults of the fetch, the A-instruction without any other, and the C-instruction's in their order. -/
theorem faultOrder : Obligations.FaultOrder := by
  refine fun s => ⟨fun h => step_of_fetch_error (fetch_of_unset h),
    fun hpc h => step_of_fetch_error (fetch_of_unloaded hpc h), fun w v hpc hw hf => ?_, fun w f hpc hw hf => ?_⟩
  · rw [step_of_fetch_ok (fetch_of_loaded hpc hw), exec_of_aInstr hf]
    exact ⟨_, execLiteral_next.mpr ⟨hpc, rfl⟩, rfl⟩
  · rw [step_of_fetch_ok (fetch_of_loaded hpc hw), exec_of_cInstr hf, execC_of_pc hpc]
    simp only [needsTarget_eq_true]

/-! ### What `reset` changes (R233) -/

/-- The state with the value `b` on the input `reset` in this tick. -/
def State.driveReset (s : State) (b : Bool) : State := { s with resetIn := b :: s.resetIn }

@[simp] theorem operandFault_driveReset (f : CFields) (s : State) (b : Bool) :
    operandFault f (s.driveReset b) = operandFault f s := rfl

theorem State.readM_driveReset (s : State) (b : Bool) : (s.driveReset b).readM = s.readM.driveReset b := by
  rw [State.readM, State.readM, apply_ite (State.driveReset · b)]
  rfl

theorem State.writeM_driveReset (s : State) (b : Bool) (v : Word) :
    (s.driveReset b).writeM v = (s.writeM v).driveReset b := by
  rw [State.writeM, State.writeM, apply_ite (State.driveReset · b)]
  rfl

theorem traceC_driveReset (f : CFields) (s : State) (b : Bool) :
    traceC f (s.driveReset b) = (traceC f s).driveReset b := by
  rw [traceC, traceC, apply_ite (State.driveReset · b), ← State.readM_driveReset]
  rfl

theorem nextPc_of_reset {s : State} (h : s.resetNow = true) (taken : Bool) : nextPc s taken = 0#15 := if_pos h

/-- Every part of the tick's end but the PC passes the input `reset` by. -/
theorem commit_driveReset_true (d : Dest) (j : Jump) (out : Word) (s : State) :
    commit d j out (s.driveReset true) = { commit d j out (s.driveReset false) with pc := 0#15 } := by
  unfold commit
  rw [State.writeM_driveReset, State.writeM_driveReset]
  cases d.toM <;> cases d.toD <;> cases d.toA <;> rfl

/-- `reset` takes the jump's need of a target away; a write address stays needed. -/
theorem faultC_driveReset_true (f : CFields) (s : State) : faultC f (s.driveReset true) =
    if f.d.toM then faultC f (s.driveReset false) else operandFault f s := by
  rw [faultC_eq, faultC_eq, targetFault, targetFault, needsTarget_of_reset rfl, needsTarget]
  cases f.d.toM with
  | true => rfl
  | false => exact Option.or_none

theorem targetFault_eq_some {d : Dest} {j : Jump} {out : Word} {s : State} {r : Fault} :
    targetFault d j out s = some r ↔ r = .readUninit .a ∧ s.unset.a = true ∧ needsTarget d j out s = true := by
  rw [targetFault, Option.ite_none_right_eq_some, Bool.and_eq_true, Option.some_inj, eq_comm (b := r)]
  tauto

theorem faultC_driveReset_of_operandFault {f : CFields} {s : State} {r : Fault} (h : operandFault f s = some r)
    (b : Bool) : faultC f (s.driveReset b) = some r := by
  rw [faultC_eq, operandFault_driveReset, h, Option.some_or]

theorem faultC_driveReset_false_of_true {f : CFields} {s : State} {r : Fault}
    (h : faultC f (s.driveReset true) = some r) : faultC f (s.driveReset false) = some r := by
  rw [faultC_driveReset_true] at h
  split at h
  case isTrue => exact h
  case isFalse => exact faultC_driveReset_of_operandFault h false

/-- The one fault that `reset` takes away: no value in A for the target of a taken jump. -/
theorem faultC_driveReset_cases {f : CFields} {s : State} {r : Fault} (h : faultC f (s.driveReset false) = some r) :
    faultC f (s.driveReset true) = some r ∨ r = .readUninit .a ∧ s.unset.a = true ∧ s.computable f = true ∧
      f.d.toM = false ∧ jumpTaken f.j (resultC f s) = true ∧ faultC f (s.driveReset true) = none := by
  cases hM : f.d.toM with
  | true => exact .inl (by rw [faultC_driveReset_true, if_pos hM, h])
  | false =>
    cases hop : operandFault f s with
    | some r' =>
      have hsame := faultC_driveReset_of_operandFault hop
      exact .inl ((hsame true).trans ((hsame false).symm.trans h))
    | none =>
      rw [faultC_eq, operandFault_driveReset, hop, Option.none_or, targetFault_eq_some, needsTarget_eq_true, hM] at h
      obtain ⟨hr, ha, hjump⟩ := h
      have hnone : faultC f (s.driveReset true) = none := by rw [faultC_driveReset_true, hM, if_neg (by decide), hop]
      exact .inr ⟨hr, ha, operandFault_eq_none.mp hop, rfl, (hjump.resolve_left Bool.false_ne_true).1, hnone⟩

theorem faultC_driveReset_true_eq_none {f : CFields} {s : State} (h : faultC f (s.driveReset false) = none) :
    faultC f (s.driveReset true) = none := by
  cases ht : faultC f (s.driveReset true) with
  | none => rfl
  | some r => exact absurd ((faultC_driveReset_false_of_true ht).symm.trans h) (Option.some_ne_none r)

theorem execC_driveReset_next {f : CFields} {s t : State} (h : execC f (s.driveReset false) = .next t) :
    execC f (s.driveReset true) = .next { t with pc := 0#15 } := by
  rw [execC_next] at h ⊢
  obtain ⟨hfault, rfl⟩ := h
  refine ⟨faultC_driveReset_true_eq_none hfault, ?_⟩
  rw [traceC_driveReset, traceC_driveReset, commit_driveReset_true]
  rfl

theorem execLiteral_driveReset (v : BitVec 15) (s : State) :
    (∃ r, ∀ b, execLiteral v (s.driveReset b) = .fault r) ∨
      ∃ t, execLiteral v (s.driveReset false) = .next t ∧
        execLiteral v (s.driveReset true) = .next { t with pc := 0#15 } := by
  cases hpc : s.unset.pc with
  | true => exact .inl ⟨_, fun _ => execLiteral_of_unset_pc (s := s.driveReset _) hpc v⟩
  | false => exact .inr ⟨_, execLiteral_next.mpr ⟨hpc, rfl⟩, execLiteral_next.mpr ⟨hpc, rfl⟩⟩

/-- Settles O34: the A-instruction does nothing that `reset` changes but the PC; the C-instruction's fault and its end are
the same on both inputs, but for the target that an overridden jump does not need. -/
theorem resetChangesOnlyPc : Obligations.ResetChangesOnlyPc := by
  intro i s s0 s1
  rw [show s0 = s.driveReset false from rfl, show s1 = s.driveReset true from rfl]
  cases hi : i.format with
  | aInstr v =>
    simp only [exec_of_aInstr hi]
    rcases execLiteral_driveReset v s with ⟨r, h⟩ | ⟨t, h0, h1⟩
    · simp +contextual [h]
    · simp [h0, h1]
  | cInstr f =>
    simp only [exec_of_cInstr hi, execC_fault]
    refine ⟨fun r => faultC_driveReset_false_of_true, fun r h => ?_, fun t => execC_driveReset_next⟩
    refine (faultC_driveReset_cases h).imp_right fun ⟨hr, ha, hcomp, hM, hjump, hnone⟩ => ?_
    refine ⟨hr, ha, ⟨f, rfl, hcomp, hM, hjump⟩, _, execC_next.mpr ⟨hnone, rfl⟩, ?_⟩
    rw [commit_pc, traceC_nextPc, nextPc_of_reset rfl]

/-! ### What a C-instruction's end does to M, as the statements say it -/

theorem commit_traceC_keepsM {d : Dest} (h : d.toM = false) (j : Jump) (out : Word) (f : CFields) (s : State) :
    KeepsM s (commit d j out (traceC f s)) := by
  refine ⟨fun k => by simp [commit_cell, h], fun k v => ?_⟩
  rw [commit_events, traceC_events, h]
  cases readsM s.params f && !s.backed s.addressM <;> simp

theorem commit_traceC_storesM {d : Dest} (h : d.toM = true) (j : Jump) (out : Word) (f : CFields) (s : State) :
    StoresM out s (commit d j out (traceC f s)) := by
  refine ⟨fun hb => ⟨?_, fun k hk => ?_, ?_⟩, fun hb => ⟨?_, ?_⟩⟩
  · simp [commit_cell, h, hb]
  · simp [commit_cell, hk.symm]
  · simp [traceC_events, hb]
  · simp [hb]
  · simp [h, hb]

/-- A jump overridden by `reset` asks for no target, so a C-instruction that stores nothing is ready with its operands. -/
theorem State.ready_of_reset {s : State} {f : CFields} (hcomp : s.computable f = true) (hM : f.d.toM = false)
    (hreset : s.resetNow = true) : s.ready f = true := by
  rw [State.ready, State.targetReady, hcomp, needsTarget_of_reset hreset, hM, Bool.not_false, Bool.or_true,
    Bool.and_true]

/-- Settles O56: the instruction is ready without a value in A, and `reset` gives the PC. -/
theorem overriddenJumpNeedsNoTarget : Obligations.OverriddenJumpNeedsNoTarget := by
  intro s i f hi hcomp _ hM _ hreset
  refine ⟨_, exec_of_ready hi (State.ready_of_reset hcomp hM hreset), ?_, commit_traceC_keepsM hM .., ?_, ?_⟩
  · rw [commit_pc, traceC_nextPc, nextPc_of_reset hreset]
  · cases hA : f.d.toA <;> simp [LoadsA, KeepsA, hA]
  · cases hD : f.d.toD <;> simp [LoadsD, KeepsD, hD]

/-! ### The ports and the data memory (R226 to R228) -/

theorem cpuOut_writeM (s : State) (w inM idle : Word) :
    (cpuOut s w inM idle).writeM = (w.getLsbD 15 && (fieldsOf w).d.toM) := rfl

/-- Settles O45: an A-instruction drives `writeM` with 0 and touches no memory; a C-instruction drives it with its destination
M and `outM` with its result. -/
theorem cpuPortsDriveMemory : Obligations.CpuPortsDriveMemory := by
  intro s t w inM idle hread hexec
  refine ⟨rfl, rfl, ?_⟩
  cases hw : w.getLsbD 15 with
  | false =>
    rw [exec_of_aInstr (format_decode_of_aInstr hw _), execLiteral_next] at hexec
    obtain ⟨-, rfl⟩ := hexec
    have hwrite : (cpuOut s w inM idle).writeM = false := by rw [cpuOut_writeM, hw, Bool.false_and]
    rw [hwrite]
    exact ⟨fun h => (nomatch h), fun _ => ⟨rfl, fun _ => rfl, fun _ _ _ => rfl⟩⟩
  | true =>
    rw [exec_of_cInstr (format_decode_of_cInstr hw _), execC_next] at hexec
    obtain ⟨-, rfl⟩ := hexec
    have hwrite : (cpuOut s w inM idle).writeM = (fieldsOf w).d.toM := by rw [cpuOut_writeM, hw, Bool.true_and]
    rw [hwrite, outM_eq_resultC hw hread]
    exact ⟨fun h => commit_traceC_storesM h .., fun h => ⟨by simp [h], commit_traceC_keepsM h ..⟩⟩

end Sys2Proof.Machine

/-! The A-instruction (spec 44_a_instruction.md R260): `@v` as the end of a tick without a jump, then the load of A. -/

namespace Sys2Proof.Machine

theorem nextPc_not_taken (s : State) : nextPc s false = if s.resetNow then 0#15 else s.pc + 1#15 := rfl

/-- Settles O13: `@v` takes no jump, so the PC goes on to the next address unless `reset` holds. -/
theorem literalLoadsA : Obligations.LiteralLoadsA := by
  intro v s hpc
  have hnext : exec (.atValue v) s = .next ((s.advance false).loadA (v.setWidth 16)) :=
    (exec_of_aInstr rfl s).trans (execLiteral_next.mpr ⟨hpc, rfl⟩)
  rw [hnext, State.loadA, State.advance, nextPc_not_taken]

end Sys2Proof.Machine

/-! The computations (spec 45_c_compute.md R270 to R299): what a row of the ALU does is said once for every code, and the
named rows and the unnamed codes are cases of it. -/

namespace Sys2Proof.Machine

/-! ### The named codes of the ALU (R271 to R298) -/

section
variable (x y : Word)

theorem aluOut_zero : aluOut x y 0b101010#6 = 0x0000#16 := by simp only [aluClosedForms x y]
theorem aluOut_one : aluOut x y 0b111111#6 = 0x0001#16 := by simp only [aluClosedForms x y]
theorem aluOut_negOne : aluOut x y 0b111010#6 = 0xFFFF#16 := by simp only [aluClosedForms x y, BitVec.reduceNeg]
theorem aluOut_copyX : aluOut x y 0b001100#6 = x := by simp only [aluClosedForms x y]
theorem aluOut_notX : aluOut x y 0b001101#6 = ~~~x := by simp only [aluClosedForms x y]
theorem aluOut_negX : aluOut x y 0b001111#6 = -x := by simp only [aluClosedForms x y]
theorem aluOut_incX : aluOut x y 0b011111#6 = x + 1#16 := by simp only [aluClosedForms x y]
theorem aluOut_decX : aluOut x y 0b001110#6 = x - 1#16 := by simp only [aluClosedForms x y]
theorem aluOut_copyY : aluOut x y 0b110000#6 = y := by simp only [aluClosedForms x y]
theorem aluOut_notY : aluOut x y 0b110001#6 = ~~~y := by simp only [aluClosedForms x y]
theorem aluOut_negY : aluOut x y 0b110011#6 = -y := by simp only [aluClosedForms x y]
theorem aluOut_incY : aluOut x y 0b110111#6 = y + 1#16 := by simp only [aluClosedForms x y]
theorem aluOut_decY : aluOut x y 0b110010#6 = y - 1#16 := by simp only [aluClosedForms x y]
theorem aluOut_addXY : aluOut x y 0b000010#6 = x + y := by simp only [aluClosedForms x y]
theorem aluOut_subXY : aluOut x y 0b010011#6 = x - y := by simp only [aluClosedForms x y]
theorem aluOut_subYX : aluOut x y 0b000111#6 = y - x := by simp only [aluClosedForms x y]
theorem aluOut_andXY : aluOut x y 0b000000#6 = x &&& y := by simp only [aluClosedForms x y]
theorem aluOut_orXY : aluOut x y 0b010101#6 = x ||| y := by simp only [aluClosedForms x y]

end

/-! ### A row of the ALU -/

theorem State.targetReady_of_set {s : State} (ha : s.unset.a = false) (d : Dest) (j : Jump) (out : Word) :
    s.targetReady d j out = true := by
  rw [State.targetReady, ha, Bool.not_false, Bool.true_or]

theorem State.targetReady_eq_false {s : State} {d : Dest} {j : Jump} {out : Word} :
    s.targetReady d j out = false ↔ s.unset.a = true ∧ needsTarget d j out s = true := by
  simp [State.targetReady]

section
variable {i : Instr} {s : State} {e : BitVec 2} {a : Bool} {c : BitVec 6} {d : Dest} {j : Jump} {out : Word}

theorem resultC_of_standardPath (hpath : s.standardPath e) :
    resultC ⟨e, a, c, d, j⟩ s = aluOut s.d (yOperand ⟨e, a, c, d, j⟩ s) c :=
  congrArg FuOut.out (functionUnit_of_standardPath (f := ⟨e, a, c, d, j⟩) hpath ..)

theorem resultC_onA (hpath : s.standardPath e) : resultC ⟨e, false, c, d, j⟩ s = aluOut s.d s.a c :=
  resultC_of_standardPath hpath

theorem needsY_of_standardPath (hpath : s.standardPath e) : needsY s.params ⟨e, a, c, d, j⟩ = !c.getLsbD 3 :=
  (needs_of_standardPath (f := ⟨e, a, c, d, j⟩) hpath).2

/-- R299: with `zy = 1` no word is read, and 0 stands for `y`. -/
theorem resultC_onM_of_zy (hpath : s.standardPath e) (hzy : c.getLsbD 3 = true) :
    resultC ⟨e, true, c, d, j⟩ s = aluOut s.d 0#16 c := by
  rw [resultC_of_standardPath hpath, yOperand, needsY_of_standardPath hpath, hzy]
  rfl

theorem resultC_onM (hpath : s.standardPath e) (hzy : c.getLsbD 3 = false) {m : Word} (hm : s.dataWord = some m) :
    resultC ⟨e, true, c, d, j⟩ s = aluOut s.d m c := by
  rw [resultC_of_standardPath hpath, yOperand, needsY_of_standardPath hpath, hzy, hm]
  rfl

theorem readsM_of_standardPath (hpath : s.standardPath e) :
    readsM s.params ⟨e, a, c, d, j⟩ = (a && !c.getLsbD 3) := by
  rw [readsM, needsY_of_standardPath hpath]

theorem traceC_of_no_read (hpath : s.standardPath e) (hread : a = false ∨ c.getLsbD 3 = true) :
    traceC ⟨e, a, c, d, j⟩ s = s := by
  rw [traceC, readsM_of_standardPath hpath, if_neg (by rcases hread with h | h <;> simp [h])]

theorem traceC_onM (hpath : s.standardPath e) (hzy : c.getLsbD 3 = false) :
    traceC ⟨e, true, c, d, j⟩ s = s.readM := by
  rw [traceC, readsM_of_standardPath hpath, hzy]
  rfl

variable (hi : i.format = .cInstr ⟨e, a, c, d, j⟩) (hpath : s.standardPath e) (hpc : s.unset.pc = false)
include hi hpath hpc

/-- R270 with R236 and R237: the tick of a row on the ALU's path, its needs read off the bits `zx` and `zy` of the code. -/
theorem exec_of_standardPath : exec i s =
    if c.getLsbD 5 = false ∧ s.unset.d = true then .fault (.readUninit .d)
    else if s.unset.a = true ∧ (c.getLsbD 3 = false ∨ needsTarget d j (resultC ⟨e, a, c, d, j⟩ s) s = true) then
      .fault (.readUninit .a)
    else if (a = true ∧ c.getLsbD 3 = false) ∧ s.dataWord = none then .fault (.readUninit .m)
    else .next (commit d j (resultC ⟨e, a, c, d, j⟩ s) (traceC ⟨e, a, c, d, j⟩ s)) := by
  obtain ⟨hx, hy⟩ := needs_of_standardPath (p := s.params) (f := ⟨e, a, c, d, j⟩) hpath
  rw [exec_of_cInstr hi, execC_of_pc hpc, readsM_of_standardPath hpath, hx, hy]
  simp only [Bool.and_eq_true, Bool.not_eq_true']

theorem exec_of_unset_d (hzx : c.getLsbD 5 = false) (hd : s.unset.d = true) :
    exec i s = .fault (.readUninit .d) := by
  rw [exec_of_standardPath hi hpath hpc, if_pos ⟨hzx, hd⟩]

/-- What is left of the tick where D is there or not needed. -/
theorem exec_of_d_ready (hx : c.getLsbD 5 = true ∨ s.unset.d = false) : exec i s =
    if s.unset.a = true ∧ (c.getLsbD 3 = false ∨ needsTarget d j (resultC ⟨e, a, c, d, j⟩ s) s = true) then
      .fault (.readUninit .a)
    else if (a = true ∧ c.getLsbD 3 = false) ∧ s.dataWord = none then .fault (.readUninit .m)
    else .next (commit d j (resultC ⟨e, a, c, d, j⟩ s) (traceC ⟨e, a, c, d, j⟩ s)) := by
  rw [exec_of_standardPath hi hpath hpc, if_neg]
  rintro ⟨hzx, hd⟩
  rcases hx with h | h
  · exact Bool.false_ne_true (hzx.symm.trans h)
  · exact Bool.false_ne_true (h.symm.trans hd)

theorem exec_of_unset_a (hx : c.getLsbD 5 = true ∨ s.unset.d = false) (hzy : c.getLsbD 3 = false)
    (ha : s.unset.a = true) : exec i s = .fault (.readUninit .a) := by
  rw [exec_of_d_ready hi hpath hpc hx, if_pos ⟨ha, .inl hzy⟩]

/-- A row that reads no word completes with its operands, but for A as an address or a target. -/
theorem commits_of_no_read (hx : c.getLsbD 5 = true ∨ s.unset.d = false) (hy : c.getLsbD 3 = true ∨ s.unset.a = false)
    (hread : a = false ∨ c.getLsbD 3 = true) : Commits i d j (resultC ⟨e, a, c, d, j⟩ s) s s := by
  have hexec := exec_of_d_ready hi hpath hpc hx
  rw [traceC_of_no_read hpath hread] at hexec
  refine ⟨fun hready => ?_, fun hready => ?_⟩
  · rw [hexec, if_neg, if_neg]
    · rcases hread with h | h <;> simp [h]
    · rintro ⟨ha, hzy | htarget⟩
      · rw [hzy, ha] at hy
        exact hy.elim Bool.false_ne_true Bool.false_ne_true.symm
      · exact Bool.false_ne_true ((State.targetReady_eq_false.mpr ⟨ha, htarget⟩).symm.trans hready)
  · obtain ⟨ha, htarget⟩ := State.targetReady_eq_false.mp hready
    rw [hexec, if_pos ⟨ha, .inr htarget⟩]

end

/-! ### A row with `a = 0` -/

section
variable {i : Instr} {s : State} {e : BitVec 2} {c : BitVec 6} {d : Dest} {j : Jump} {out : Word}
variable (hi : i.format = .cInstr ⟨e, false, c, d, j⟩) (hpath : s.standardPath e) (hpc : s.unset.pc = false)
include hi hpath hpc

theorem commits_onA (hx : c.getLsbD 5 = true ∨ s.unset.d = false) (hy : c.getLsbD 3 = true ∨ s.unset.a = false)
    (hout : aluOut s.d s.a c = out) : Commits i d j out s s := by
  rw [← hout, ← resultC_onA hpath]
  exact commits_of_no_read hi hpath hpc hx hy (.inl rfl)

theorem exec_onA (hx : c.getLsbD 5 = true ∨ s.unset.d = false) (ha : s.unset.a = false)
    (hout : aluOut s.d s.a c = out) : exec i s = .next (commit d j out s) := by
  obtain ⟨hnext, -⟩ := commits_onA hi hpath hpc hx (.inr ha) hout
  exact hnext (State.targetReady_of_set ha d j out)

end

/-! ### A row with `a = 1` -/

section
variable {i : Instr} {s : State} {e : BitVec 2} {c : BitVec 6} {d : Dest} {j : Jump} {out : Word}
variable (hi : i.format = .cInstr ⟨e, true, c, d, j⟩) (hpath : s.standardPath e) (hpc : s.unset.pc = false)
include hi hpath hpc

theorem exec_onM_of_no_dataWord (hx : c.getLsbD 5 = true ∨ s.unset.d = false) (hzy : c.getLsbD 3 = false)
    (ha : s.unset.a = false) (hm : s.dataWord = none) : exec i s = .fault (.readUninit .m) := by
  rw [exec_of_d_ready hi hpath hpc hx, if_neg (by simp [ha]), if_pos ⟨⟨rfl, hzy⟩, hm⟩]

theorem exec_onM (hx : c.getLsbD 5 = true ∨ s.unset.d = false) (hzy : c.getLsbD 3 = false) (ha : s.unset.a = false)
    {m : Word} (hm : s.dataWord = some m) (hout : aluOut s.d m c = out) :
    exec i s = .next (commit d j out s.readM) := by
  rw [exec_of_d_ready hi hpath hpc hx, if_neg (by simp [ha]), if_neg (by simp [hm]), resultC_onM hpath hzy hm, hout,
    traceC_onM hpath hzy]

theorem commits_onM_of_zy (hx : c.getLsbD 5 = true ∨ s.unset.d = false) (hzy : c.getLsbD 3 = true) :
    Commits i d j (aluOut s.d 0#16 c) s s := by
  rw [← resultC_onM_of_zy hpath hzy]
  exact commits_of_no_read hi hpath hpc hx (.inl hzy) (.inr hzy)

end

/-! ### Rows listed with their codes -/

section
variable {e : BitVec 2} {a : Bool} {d : Dest} {j : Jump}

theorem format_of_mem {rows : List (Instr × BitVec 6)}
    (hrows : rows.map (fun q => q.1.format) = rows.map fun q => .cInstr ⟨e, a, q.2, d, j⟩) {q : Instr × BitVec 6}
    (hq : q ∈ rows) : q.1.format = .cInstr ⟨e, a, q.2, d, j⟩ :=
  List.map_inj_left.mp hrows q hq

theorem exists_code_of_mem {rows : List Instr} {codes : List (BitVec 6)} {P : BitVec 6 → Prop}
    (hcodes : ∀ c ∈ codes, P c) (hrows : rows.map Instr.format = codes.map fun c => .cInstr ⟨e, a, c, d, j⟩)
    {i : Instr} (hi : i ∈ rows) : ∃ c, i.format = .cInstr ⟨e, a, c, d, j⟩ ∧ P c := by
  have hformat : i.format ∈ codes.map fun c => .cInstr ⟨e, a, c, d, j⟩ := hrows ▸ List.mem_map_of_mem hi
  obtain ⟨c, hc, hci⟩ := List.mem_map.mp hformat
  exact ⟨c, hci.symm, hcodes c hc⟩

end

/-! ### The unnamed codes (R299) -/

/-- Settles O20: every code of the list is its row's own, so the clauses are those of a row with `a = 0`. -/
theorem unnamedCodesOnA : Obligations.UnnamedCodesOnA := by
  intro s e d j hpc hpath q hq
  have hi : q.1.format = .cInstr ⟨e, false, q.2, d, j⟩ := format_of_mem rfl hq
  exact ⟨exec_of_unset_d hi hpath hpc, exec_of_unset_a hi hpath hpc, fun hx hy => commits_onA hi hpath hpc hx hy rfl⟩

/-- Settles O21: as O20, by the clauses of a row with `a = 1`. -/
theorem unnamedCodesOnM : Obligations.UnnamedCodesOnM := by
  intro s e d j hpc hpath q hq
  have hi : q.1.format = .cInstr ⟨e, true, q.2, d, j⟩ := format_of_mem rfl hq
  exact ⟨exec_of_unset_d hi hpath hpc, fun hx => ⟨commits_onM_of_zy hi hpath hpc hx, exec_of_unset_a hi hpath hpc hx,
    exec_onM_of_no_dataWord hi hpath hpc hx, fun m hzy ha hm => exec_onM hi hpath hpc hx hzy ha hm rfl⟩⟩

/-! ### The named computations (R271 to R298) -/

/-- Settles O14: `zx` and `zy` are set, so no operand is needed. -/
theorem constantComputations : Obligations.ConstantComputations := by
  intro s e d j hpc hpath
  have hcommits {i : Instr} {c : BitVec 6} {out : Word} (hi : i.format = .cInstr ⟨e, false, c, d, j⟩)
      (hzx : c.getLsbD 5 = true) (hzy : c.getLsbD 3 = true) (hout : aluOut s.d s.a c = out) : Commits i d j out s s :=
    commits_onA hi hpath hpc (.inl hzx) (.inl hzy) hout
  exact ⟨hcommits rfl rfl rfl (aluOut_zero ..), hcommits rfl rfl rfl (aluOut_one ..),
    hcommits rfl rfl rfl (aluOut_negOne ..)⟩

/-- The codes of `x`, `!x`, `-x`, `x+1` and `x-1`. -/
def codesOfX : List (BitVec 6) := [0b001100#6, 0b001101#6, 0b001111#6, 0b011111#6, 0b001110#6]

/-- The codes of `y`, `!y`, `-y`, `y+1` and `y-1`. -/
def codesOfY : List (BitVec 6) := [0b110000#6, 0b110001#6, 0b110011#6, 0b110111#6, 0b110010#6]

/-- The codes of `x+y`, `x-y`, `y-x`, `x&y` and `x|y`. -/
def codesOfXAndY : List (BitVec 6) := [0b000010#6, 0b010011#6, 0b000111#6, 0b000000#6, 0b010101#6]

theorem zx_zy_of_codesOfX : ∀ c ∈ codesOfX, c.getLsbD 5 = false ∧ c.getLsbD 3 = true := by decide

theorem zx_zy_of_codesOfY : ∀ c ∈ codesOfY, c.getLsbD 5 = true ∧ c.getLsbD 3 = false := by decide

theorem zx_zy_of_codesOfXAndY : ∀ c ∈ codesOfXAndY, c.getLsbD 5 = false ∧ c.getLsbD 3 = false := by decide

/-- Settles O15: `zx` is clear and `zy` set, so D is the one operand. -/
theorem computationsOfD : Obligations.ComputationsOfD := by
  intro s e d j hpc hpath
  refine ⟨fun hd i hi => ?_, fun hd => ?_⟩
  · obtain ⟨c, hi, hzx, -⟩ := exists_code_of_mem zx_zy_of_codesOfX rfl hi
    exact exec_of_unset_d hi hpath hpc hzx hd
  · have hcommits {i : Instr} {c : BitVec 6} {out : Word} (hi : i.format = .cInstr ⟨e, false, c, d, j⟩)
        (hzy : c.getLsbD 3 = true) (hout : aluOut s.d s.a c = out) : Commits i d j out s s :=
      commits_onA hi hpath hpc (.inr hd) (.inl hzy) hout
    exact ⟨hcommits rfl rfl (aluOut_copyX ..), hcommits rfl rfl (aluOut_notX ..), hcommits rfl rfl (aluOut_negX ..),
      hcommits rfl rfl (aluOut_incX ..), hcommits rfl rfl (aluOut_decX ..)⟩

/-- Settles O16: `zx` is set and `zy` clear, so A is the one operand, and where it is there it also serves as an address or
a target. -/
theorem computationsOfA : Obligations.ComputationsOfA := by
  intro s e d j hpc hpath
  refine ⟨fun ha i hi => ?_, fun ha => ?_⟩
  · obtain ⟨c, hi, hzx, hzy⟩ := exists_code_of_mem zx_zy_of_codesOfY rfl hi
    exact exec_of_unset_a hi hpath hpc (.inl hzx) hzy ha
  · have hnext {i : Instr} {c : BitVec 6} {out : Word} (hi : i.format = .cInstr ⟨e, false, c, d, j⟩)
        (hzx : c.getLsbD 5 = true) (hout : aluOut s.d s.a c = out) : exec i s = .next (commit d j out s) :=
      exec_onA hi hpath hpc (.inl hzx) ha hout
    exact ⟨hnext rfl rfl (aluOut_copyY ..), hnext rfl rfl (aluOut_notY ..), hnext rfl rfl (aluOut_negY ..),
      hnext rfl rfl (aluOut_incY ..), hnext rfl rfl (aluOut_decY ..)⟩

/-- Settles O17: `zx` and `zy` are clear, so D and A are operands, D asked for first. -/
theorem computationsOfDAndA : Obligations.ComputationsOfDAndA := by
  intro s e d j hpc hpath
  refine ⟨fun hd i hi => ?_, fun hd ha i hi => ?_, fun hd ha => ?_⟩
  · obtain ⟨c, hi, hzx, -⟩ := exists_code_of_mem zx_zy_of_codesOfXAndY rfl hi
    exact exec_of_unset_d hi hpath hpc hzx hd
  · obtain ⟨c, hi, -, hzy⟩ := exists_code_of_mem zx_zy_of_codesOfXAndY rfl hi
    exact exec_of_unset_a hi hpath hpc (.inr hd) hzy ha
  · have hnext {i : Instr} {c : BitVec 6} {out : Word} (hi : i.format = .cInstr ⟨e, false, c, d, j⟩)
        (hout : aluOut s.d s.a c = out) : exec i s = .next (commit d j out s) :=
      exec_onA hi hpath hpc (.inr hd) ha hout
    exact ⟨hnext rfl (aluOut_addXY ..), hnext rfl (aluOut_subXY ..), hnext rfl (aluOut_subYX ..),
      hnext rfl (aluOut_andXY ..), hnext rfl (aluOut_orXY ..)⟩

/-- Settles O18: as O16, with the word at A for `y`: A is asked for as its address, then the word. -/
theorem computationsOfM : Obligations.ComputationsOfM := by
  intro s e d j hpc hpath
  refine ⟨fun ha i hi => ?_, fun ha hm i hi => ?_, fun m ha hm => ?_⟩
  · obtain ⟨c, hi, hzx, hzy⟩ := exists_code_of_mem zx_zy_of_codesOfY rfl hi
    exact exec_of_unset_a hi hpath hpc (.inl hzx) hzy ha
  · obtain ⟨c, hi, hzx, hzy⟩ := exists_code_of_mem zx_zy_of_codesOfY rfl hi
    exact exec_onM_of_no_dataWord hi hpath hpc (.inl hzx) hzy ha hm
  · have hnext {i : Instr} {c : BitVec 6} {out : Word} (hi : i.format = .cInstr ⟨e, true, c, d, j⟩)
        (hzx : c.getLsbD 5 = true) (hzy : c.getLsbD 3 = false) (hout : aluOut s.d m c = out) :
        exec i s = .next (commit d j out s.readM) :=
      exec_onM hi hpath hpc (.inl hzx) hzy ha hm hout
    exact ⟨hnext rfl rfl rfl (aluOut_copyY ..), hnext rfl rfl rfl (aluOut_notY ..), hnext rfl rfl rfl (aluOut_negY ..),
      hnext rfl rfl rfl (aluOut_incY ..), hnext rfl rfl rfl (aluOut_decY ..)⟩

/-- Settles O19: as O17, with the word at A for `y`. -/
theorem computationsOfDAndM : Obligations.ComputationsOfDAndM := by
  intro s e d j hpc hpath
  refine ⟨fun hd i hi => ?_, fun hd ha i hi => ?_, fun hd ha hm i hi => ?_, fun m hd ha hm => ?_⟩
  · obtain ⟨c, hi, hzx, -⟩ := exists_code_of_mem zx_zy_of_codesOfXAndY rfl hi
    exact exec_of_unset_d hi hpath hpc hzx hd
  · obtain ⟨c, hi, -, hzy⟩ := exists_code_of_mem zx_zy_of_codesOfXAndY rfl hi
    exact exec_of_unset_a hi hpath hpc (.inr hd) hzy ha
  · obtain ⟨c, hi, -, hzy⟩ := exists_code_of_mem zx_zy_of_codesOfXAndY rfl hi
    exact exec_onM_of_no_dataWord hi hpath hpc (.inr hd) hzy ha hm
  · have hnext {i : Instr} {c : BitVec 6} {out : Word} (hi : i.format = .cInstr ⟨e, true, c, d, j⟩)
        (hzy : c.getLsbD 3 = false) (hout : aluOut s.d m c = out) : exec i s = .next (commit d j out s.readM) :=
      exec_onM hi hpath hpc (.inr hd) hzy ha hm hout
    exact ⟨hnext rfl rfl (aluOut_addXY ..), hnext rfl rfl (aluOut_subXY ..), hnext rfl rfl (aluOut_subYX ..),
      hnext rfl rfl (aluOut_andXY ..), hnext rfl rfl (aluOut_orXY ..)⟩

end Sys2Proof.Machine

/-! The destinations and the jumps (spec 46_c_dest_jump.md R310 to R328): each part of a C-instruction's end by one bit of
its field `d`, and its PC by the condition of its field `j`; the rows are the values of these fields. -/

namespace Sys2Proof.Machine

/-! ### The loads and the stores of a tick (R310) -/

/-- Each bit of `d` decides about one of A, D and M. -/
theorem commit_traceC_destinations (d : Dest) (j : Jump) (out : Word) (f : CFields) (s : State) :
    (if d.toA then LoadsA out s (commit d j out (traceC f s)) else KeepsA s (commit d j out (traceC f s))) ∧
    (if d.toD then LoadsD out s (commit d j out (traceC f s)) else KeepsD s (commit d j out (traceC f s))) ∧
    (if d.toM then StoresM out s (commit d j out (traceC f s)) else KeepsM s (commit d j out (traceC f s))) := by
  refine ⟨?_, ?_, ?_⟩
  · cases h : d.toA <;> simp [LoadsA, KeepsA, h]
  · cases h : d.toD <;> simp [LoadsD, KeepsD, h]
  · cases h : d.toM with
    | true => exact commit_traceC_storesM h ..
    | false => exact commit_traceC_keepsM h ..

section
variable {i : Instr} {f : CFields} {s : State} (hi : i.format = .cInstr f)
include hi

theorem exec_destinations_of_ready (hready : s.ready f = true) : ∃ t, exec i s = .next t ∧
    (if f.d.toA then LoadsA (resultC f s) s t else KeepsA s t) ∧
    (if f.d.toD then LoadsD (resultC f s) s t else KeepsD s t) ∧
    (if f.d.toM then StoresM (resultC f s) s t else KeepsM s t) :=
  ⟨_, exec_of_ready hi hready, commit_traceC_destinations ..⟩

/-- R236: with its operands there, a C-instruction that needs a target faults where A holds no value. -/
theorem exec_of_unset_target (hcomp : s.computable f = true) (ha : s.unset.a = true)
    (htarget : needsTarget f.d f.j (resultC f s) s = true) : exec i s = .fault (.readUninit .a) := by
  rw [exec_of_cInstr hi, execC_fault, faultC_eq, operandFault_eq_none.mpr hcomp, Option.none_or, targetFault_eq_some]
  exact ⟨rfl, ha, htarget⟩

end

/-- Settles O26: the eight codes are the values of the three bits of `d`; a store needs A whatever the other two are. The
result and the operands' needs depend on neither `d` nor `j`. -/
theorem destinationRows : Obligations.DestinationRows := by
  intro s e a c j f out
  refine ⟨fun hready => ?_, exec_destinations_of_ready rfl, exec_destinations_of_ready rfl,
    exec_destinations_of_ready rfl, exec_destinations_of_ready rfl, exec_destinations_of_ready rfl,
    exec_destinations_of_ready rfl, exec_destinations_of_ready rfl, fun hcomp ha => ?_⟩
  · obtain ⟨hA, hD, hM⟩ := commit_traceC_destinations ⟨false, false, false⟩ j out (f false false false) s
    refine ⟨_, exec_of_ready rfl hready, hA, hD, hM, fun hj hreset => ?_⟩
    have hstay : jumpTaken j (resultC (f false false false) s) = false := by rw [hj]; rfl
    rw [commit_pc, traceC_nextPc, hstay, nextPc_not_taken, hreset]
    rfl
  · have hfault {i : Instr} {d : Dest} (hi : i.format = .cInstr ⟨e, a, c, d, j⟩) (hM : d.toM = true) :
        exec i s = .fault (.readUninit .a) :=
      exec_of_unset_target hi hcomp ha (needsTarget_eq_true.mpr (.inl hM))
    simp only [List.forall_mem_cons]
    exact ⟨hfault rfl rfl, hfault rfl rfl, hfault rfl rfl, hfault rfl rfl, List.forall_mem_nil _⟩

/-! ### The jump condition and the next PC (R320) -/

theorem jumpTaken_iff {j : Jump} {out : Word} : jumpTaken j out = true ↔
    j.onNeg = true ∧ out.toInt < 0 ∨ j.onZero = true ∧ out.toInt = 0 ∨ j.onPos = true ∧ 0 < out.toInt := by
  have hzero : out.toInt = 0 ↔ out = 0#16 := BitVec.toInt_inj (y := 0#16)
  simp only [jumpTaken, Bool.or_eq_true, Bool.and_eq_true, flagNg_iff, flagZr_iff, flagPos_iff, hzero, or_assoc]

/-- R321 to R328: the sign bits of each code joined to one comparison of the signed result with 0. -/
theorem jumpTaken_codes (out : Word) :
    (jumpTaken ⟨false, false, false⟩ out = true ↔ False) ∧
    (jumpTaken ⟨false, false, true⟩ out = true ↔ 0 < out.toInt) ∧
    (jumpTaken ⟨false, true, false⟩ out = true ↔ out.toInt = 0) ∧
    (jumpTaken ⟨false, true, true⟩ out = true ↔ 0 ≤ out.toInt) ∧
    (jumpTaken ⟨true, false, false⟩ out = true ↔ out.toInt < 0) ∧
    (jumpTaken ⟨true, false, true⟩ out = true ↔ out.toInt ≠ 0) ∧
    (jumpTaken ⟨true, true, false⟩ out = true ↔ out.toInt ≤ 0) ∧
    (jumpTaken ⟨true, true, true⟩ out = true ↔ True) := by
  simp only [jumpTaken_iff, Bool.false_eq_true, true_and, false_and, false_or, or_false, iff_true]
  and_intros <;> omega

theorem nextPc_of_taken {s : State} (hreset : s.resetNow = false) : nextPc s true = s.addressM := by
  rw [nextPc, hreset]
  rfl

theorem toNat_nextPc_not_taken {s : State} (hreset : s.resetNow = false) :
    (nextPc s false).toNat = (s.pc.toNat + 1) % 2 ^ 15 := by
  rw [nextPc_not_taken, hreset]
  exact BitVec.toNat_add ..

/-- R232 and R320: the PC after a C-instruction whose jump is taken exactly when `taken` holds. -/
theorem exec_pc_of_ready {i : Instr} {f : CFields} {s : State} {taken : Prop} (hi : i.format = .cInstr f)
    (htaken : jumpTaken f.j (resultC f s) = true ↔ taken) (hready : s.ready f = true) : ∃ t, exec i s = .next t ∧
    (s.resetNow = true → t.pc = 0#15) ∧
    (s.resetNow = false → taken → t.pc = s.a.setWidth 15) ∧
    (s.resetNow = false → ¬ taken → t.pc.toNat = (s.pc.toNat + 1) % 2 ^ 15) := by
  refine ⟨_, exec_of_ready hi hready, ?_⟩
  rw [commit_pc, traceC_nextPc, ← htaken]
  refine ⟨fun hreset => nextPc_of_reset hreset _, fun hreset hjump => ?_, fun hreset hstay => ?_⟩
  · rw [hjump, nextPc_of_taken hreset, State.addressM]
  · rw [Bool.eq_false_of_not_eq_true hstay, toNat_nextPc_not_taken hreset]

/-- Settles O27: the eight codes by their conditions on the sign; a jump taken without `reset` needs A. The result and the
operands' needs depend on neither `d` nor `j`. -/
theorem jumpRows : Obligations.JumpRows := by
  intro s e a c d f result out goesTo
  obtain ⟨hnone, hJGT, hJEQ, hJGE, hJLT, hJNE, hJLE, hJMP⟩ := jumpTaken_codes result
  exact ⟨exec_pc_of_ready rfl hnone, exec_pc_of_ready rfl hJGT, exec_pc_of_ready rfl hJEQ, exec_pc_of_ready rfl hJGE,
    exec_pc_of_ready rfl hJLT, exec_pc_of_ready rfl hJNE, exec_pc_of_ready rfl hJLE, exec_pc_of_ready rfl hJMP,
    fun hcomp ha hreset _ _ hi hjump =>
      exec_of_unset_target hi hcomp ha (needsTarget_eq_true.mpr (.inr ⟨hjump, hreset⟩))⟩

end Sys2Proof.Machine

/-! The Extended variant (spec 47_extended.md R340 to R351): a row by what its path needs and computes, and the path that
both variants share. -/

namespace Sys2Proof.Machine

/-! ### A row by what it needs (R236, R237) -/

/-- The function unit on D and A, where the row's `y` is A. -/
theorem resultC_of_y_is_A {f : CFields} (hA : f.a = false) (s : State) :
    resultC f s = (functionUnit s.params f s.d s.a).out := by
  rw [resultC, yOperand, hA]
  rfl

/-- The function unit on D and the word at A, where the row reads it. -/
theorem resultC_of_y_is_M {f : CFields} {s : State} {m : Word} (hread : readsM s.params f = true)
    (hm : s.dataWord = some m) : resultC f s = (functionUnit s.params f s.d m).out := by
  obtain ⟨hM, hy⟩ := Bool.and_eq_true_iff.mp hread
  rw [resultC, yOperand, hM, hy, hm]
  rfl

theorem traceC_of_not_readsM {f : CFields} {s : State} (h : readsM s.params f = false) : traceC f s = s := by
  rw [traceC, h]
  rfl

theorem traceC_of_readsM {f : CFields} {s : State} (h : readsM s.params f = true) : traceC f s = s.readM := if_pos h

section
variable {i : Instr} {f : CFields} {s : State} {m out : Word} (hi : i.format = .cInstr f) (hpc : s.unset.pc = false)
include hi hpc

theorem exec_of_unset_x (hx : needsX s.params f = true) (hd : s.unset.d = true) : exec i s = .fault (.readUninit .d) := by
  rw [exec_of_cInstr hi, execC_of_pc hpc, if_pos ⟨hx, hd⟩]

variable (hx : needsX s.params f = false ∨ s.unset.d = false)
include hx

/-- What is left of the tick where its D is there or not needed. -/
theorem exec_of_x_ready : exec i s =
    if s.unset.a = true ∧ (needsY s.params f = true ∨ needsTarget f.d f.j (resultC f s) s = true) then
      .fault (.readUninit .a)
    else if readsM s.params f = true ∧ s.dataWord = none then .fault (.readUninit .m)
    else .next (commit f.d f.j (resultC f s) (traceC f s)) := by
  rw [exec_of_cInstr hi, execC_of_pc hpc, if_neg]
  rcases hx with h | h <;> simp [h]

/-- A row that needs no `y` completes, but for A as an address or a target. -/
theorem commits_of_not_needsY (hy : needsY s.params f = false) : Commits i f.d f.j (resultC f s) s s := by
  have hread := readsM_of_not_needsY hy
  have hexec := exec_of_x_ready hi hpc hx
  rw [traceC_of_not_readsM hread, if_neg (c := _ ∧ s.dataWord = none) (by simp [hread])] at hexec
  refine ⟨fun hready => ?_, fun hready => ?_⟩
  · rw [hexec, if_neg]
    rintro ⟨ha, htarget⟩
    have hmissing := State.targetReady_eq_false.mpr ⟨ha, htarget.resolve_left (by simp [hy])⟩
    exact Bool.false_ne_true (hmissing.symm.trans hready)
  · obtain ⟨ha, htarget⟩ := State.targetReady_eq_false.mp hready
    rw [hexec, if_pos ⟨ha, .inr htarget⟩]

theorem exec_of_unset_y (hy : needsY s.params f = true) (ha : s.unset.a = true) :
    exec i s = .fault (.readUninit .a) := by
  rw [exec_of_x_ready hi hpc hx, if_pos ⟨ha, .inl hy⟩]

variable (ha : s.unset.a = false)
include ha

theorem exec_of_y_is_A (hA : f.a = false) (hout : (functionUnit s.params f s.d s.a).out = out) :
    exec i s = .next (commit f.d f.j out s) := by
  have hread : readsM s.params f = false := by rw [readsM, hA, Bool.false_and]
  rw [exec_of_x_ready hi hpc hx, if_neg (by simp [ha]), if_neg (by simp [hread]), resultC_of_y_is_A hA, hout,
    traceC_of_not_readsM hread]

variable (hread : readsM s.params f = true)
include hread

theorem exec_of_unset_M (hm : s.dataWord = none) : exec i s = .fault (.readUninit .m) := by
  rw [exec_of_x_ready hi hpc hx, if_neg (by simp [ha]), if_pos ⟨hread, hm⟩]

theorem exec_of_y_is_M (hm : s.dataWord = some m) (hout : (functionUnit s.params f s.d m).out = out) :
    exec i s = .next (commit f.d f.j out s.readM) := by
  rw [exec_of_x_ready hi hpc hx, if_neg (by simp [ha]), if_neg (by simp [hm]), resultC_of_y_is_M hread hm, hout,
    traceC_of_readsM hread]

end

/-! ### The multiplications (R341, R342, R349) -/

/-- R349: selector A is `00` or `10`, which multiply alike, exactly off the other two paths: its low bit is clear. -/
theorem mulPath_iff : ∀ e : BitVec 2, e.getLsbD 0 = false ↔ e ≠ 0b11#2 ∧ e ≠ 0b01#2 := by decide

/-- The row needs both operands and gives their unsigned product modulo 2^16. -/
def MulRow (p : Params) (f : CFields) : Prop :=
  needsX p f = true ∧ needsY p f = true ∧ ∀ x y, (functionUnit p f x y).out = BitVec.ofNat 16 (x.toNat * y.toNat)

theorem mulRow_of_selectorA {p : Params} {f : CFields} (hv : p.variant = .extended) (he : f.e.getLsbD 0 = false) :
    MulRow p f := by
  obtain ⟨h3, h1⟩ := (mulPath_iff f.e).mp he
  obtain ⟨hx, hy⟩ := needs_of_mul hv h3 h1
  refine ⟨hx, hy, fun x y => ?_⟩
  simp only [functionUnit, hv, extAlu, extAluOut_extCode_of_mul h3 h1, withFlags]
  rfl

section
variable {i : Instr} {f : CFields} {s : State} {m : Word}
variable (hi : i.format = .cInstr f) (hpc : s.unset.pc = false) (hrow : MulRow s.params f)
include hi hpc hrow

theorem MulRow.exec_of_unset_d (hd : s.unset.d = true) : exec i s = .fault (.readUninit .d) := by
  obtain ⟨hx, -, -⟩ := hrow
  exact exec_of_unset_x hi hpc hx hd

variable (hd : s.unset.d = false)
include hd

theorem MulRow.exec_of_unset_a (ha : s.unset.a = true) : exec i s = .fault (.readUninit .a) := by
  obtain ⟨-, hy, -⟩ := hrow
  exact exec_of_unset_y hi hpc (.inr hd) hy ha

variable (ha : s.unset.a = false)
include ha

theorem MulRow.exec_onA (hA : f.a = false) :
    exec i s = .next (commit f.d f.j (BitVec.ofNat 16 (s.d.toNat * s.a.toNat)) s) := by
  obtain ⟨-, -, hout⟩ := hrow
  exact exec_of_y_is_A hi hpc (.inr hd) ha hA (hout ..)

variable (hM : f.a = true)
include hM

theorem MulRow.exec_of_no_dataWord (hm : s.dataWord = none) : exec i s = .fault (.readUninit .m) := by
  obtain ⟨-, hy, -⟩ := hrow
  exact exec_of_unset_M hi hpc (.inr hd) ha (by rw [readsM, hM, hy]; rfl) hm

theorem MulRow.exec_onM (hm : s.dataWord = some m) :
    exec i s = .next (commit f.d f.j (BitVec.ofNat 16 (s.d.toNat * m.toNat)) s.readM) := by
  obtain ⟨-, hy, hout⟩ := hrow
  exact exec_of_y_is_M hi hpc (.inr hd) ha (by rw [readsM, hM, hy]; rfl) hm (hout ..)

end

/-- Settles O22: the rows of selector A `00` and of `10` are multiplying rows alike, the operand `y` being A or M by the bit
`a`. -/
theorem multiplications : Obligations.Multiplications := by
  intro s ign d j hpc hv
  have h00 (a : Bool) : MulRow s.params ⟨0b00#2, a, ign, d, j⟩ := mulRow_of_selectorA hv (by simp)
  have h10 (a : Bool) : MulRow s.params ⟨0b10#2, a, ign, d, j⟩ := mulRow_of_selectorA hv (by simp)
  simp only [List.forall_mem_cons]
  refine ⟨fun hd => ?_, fun hd ha => ?_, fun hd ha => ?_, fun hd ha hm => ?_, fun m hd ha hm => ?_⟩
  · exact ⟨(h00 false).exec_of_unset_d rfl hpc hd, (h00 true).exec_of_unset_d rfl hpc hd,
      (h10 false).exec_of_unset_d rfl hpc hd, (h10 true).exec_of_unset_d rfl hpc hd, List.forall_mem_nil _⟩
  · exact ⟨(h00 false).exec_of_unset_a rfl hpc hd ha, (h00 true).exec_of_unset_a rfl hpc hd ha,
      (h10 false).exec_of_unset_a rfl hpc hd ha, (h10 true).exec_of_unset_a rfl hpc hd ha, List.forall_mem_nil _⟩
  · exact ⟨(h00 false).exec_onA rfl hpc hd ha rfl, (h10 false).exec_onA rfl hpc hd ha rfl⟩
  · exact ⟨(h00 true).exec_of_no_dataWord rfl hpc hd ha rfl hm, (h10 true).exec_of_no_dataWord rfl hpc hd ha rfl hm⟩
  · exact ⟨(h00 true).exec_onM rfl hpc hd ha rfl hm, (h10 true).exec_onM rfl hpc hd ha rfl hm⟩

/-! ### The shifts (R343 to R348, R351) -/

/-- The one-bit shift of R343 to R348, to the left or arithmetically to the right. -/
def shiftBy (p : Params) (left : Bool) (v : Word) : Word :=
  if left then shiftLeft p.aslKeepsSign v else v.sshiftRight 1

/-- The row shifts D, or with `ofX = false` its operand `y`, and needs nothing else. -/
def ShiftRow (p : Params) (f : CFields) (ofX left : Bool) : Prop :=
  needsX p f = ofX ∧ needsY p f = !ofX ∧ ∀ x y, (functionUnit p f x y).out = shiftBy p left (if ofX then x else y)

/-- R202: the two bits of selector B say what the row shifts and whereto. -/
theorem shiftRow_of_selectorB {p : Params} {f : CFields} (hv : p.variant = .extended) (h1 : f.e = 0b01#2) :
    ShiftRow p f (if p.extSelBLo = .four then f.c.getLsbD 4 else f.c.getLsbD 5)
      (if p.extSelBLo = .four then f.c.getLsbD 5 else f.a) := by
  obtain ⟨hx, hy⟩ := needs_of_shift hv h1
  rw [getLsbD_zero_selectorB_extCode] at hx hy
  refine ⟨hx, hy, fun x y => ?_⟩
  rw [functionUnit_of_shift hv h1, withFlags, shiftOut_extCode, shiftBy]

theorem getLsbD_selectorB_append : ∀ (sel : BitVec 2) (ign : BitVec 4),
    (sel ++ ign).getLsbD 4 = sel.getLsbD 0 ∧ (sel ++ ign).getLsbD 5 = sel.getLsbD 1 := by decide

theorem shiftRow_four {p : Params} (hv : p.variant = .extended) (hlo : p.extSelBLo = .four) (a : Bool) (sel : BitVec 2)
    (ign : BitVec 4) (d : Dest) (j : Jump) :
    ShiftRow p ⟨0b01#2, a, sel ++ ign, d, j⟩ (sel.getLsbD 0) (sel.getLsbD 1) := by
  have hrow := shiftRow_of_selectorB (f := ⟨0b01#2, a, sel ++ ign, d, j⟩) hv rfl
  obtain ⟨h4, h5⟩ := getLsbD_selectorB_append sel ign
  rwa [if_pos hlo, if_pos hlo, h4, h5] at hrow

theorem getLsbD_operand_append : ∀ (sel : BitVec 1) (ign : BitVec 5), (sel ++ ign).getLsbD 5 = sel.getLsbD 0 := by decide

/-- R351: with `EXT_SELB_LO = 5` the direction is the bit `a`, so M alone is shifted left and A alone to the right. -/
theorem shiftRow_five {p : Params} (hv : p.variant = .extended) (hlo : p.extSelBLo = .five) (a : Bool) (sel : BitVec 1)
    (ign : BitVec 5) (d : Dest) (j : Jump) : ShiftRow p ⟨0b01#2, a, sel ++ ign, d, j⟩ (sel.getLsbD 0) a := by
  have hrow := shiftRow_of_selectorB (f := ⟨0b01#2, a, sel ++ ign, d, j⟩) hv rfl
  have hne : p.extSelBLo ≠ .four := by rw [hlo]; decide
  rwa [if_neg hne, if_neg hne, getLsbD_operand_append] at hrow

section
variable {i : Instr} {f : CFields} {s : State} {m : Word} {left : Bool}
variable (hi : i.format = .cInstr f) (hpc : s.unset.pc = false)
include hi hpc

theorem ShiftRow.exec_of_unset_d (hrow : ShiftRow s.params f true left) (hd : s.unset.d = true) :
    exec i s = .fault (.readUninit .d) := by
  obtain ⟨hx, -, -⟩ := hrow
  exact exec_of_unset_x hi hpc hx hd

theorem ShiftRow.commits (hrow : ShiftRow s.params f true left) (hd : s.unset.d = false) :
    Commits i f.d f.j (shiftBy s.params left s.d) s s := by
  obtain ⟨-, hy, hout⟩ := hrow
  have hresult : resultC f s = shiftBy s.params left s.d := hout ..
  rw [← hresult]
  exact commits_of_not_needsY hi hpc (.inr hd) hy

variable (hrow : ShiftRow s.params f false left)
include hrow

theorem ShiftRow.exec_of_unset_a (ha : s.unset.a = true) : exec i s = .fault (.readUninit .a) := by
  obtain ⟨hx, hy, -⟩ := hrow
  exact exec_of_unset_y hi hpc (.inl hx) hy ha

variable (ha : s.unset.a = false)
include ha

theorem ShiftRow.exec_onA (hA : f.a = false) : exec i s = .next (commit f.d f.j (shiftBy s.params left s.a) s) := by
  obtain ⟨hx, -, hout⟩ := hrow
  exact exec_of_y_is_A hi hpc (.inl hx) ha hA (hout ..)

variable (hM : f.a = true)
include hM

theorem ShiftRow.exec_of_no_dataWord (hm : s.dataWord = none) : exec i s = .fault (.readUninit .m) := by
  obtain ⟨hx, hy, -⟩ := hrow
  exact exec_of_unset_M hi hpc (.inl hx) ha (by rw [readsM, hM, hy]; rfl) hm

theorem ShiftRow.exec_onM (hm : s.dataWord = some m) :
    exec i s = .next (commit f.d f.j (shiftBy s.params left m) s.readM) := by
  obtain ⟨hx, hy, hout⟩ := hrow
  exact exec_of_y_is_M hi hpc (.inl hx) ha (by rw [readsM, hM, hy]; rfl) hm (hout ..)

end

/-- Settles O23: the six rows are the values of selector B, the operand `y` being A or M by the bit `a`. -/
theorem shifts : Obligations.Shifts := by
  intro s a ign d j hpc hv hlo
  have hrow (b : Bool) (sel : BitVec 2) := shiftRow_four hv hlo b sel ign d j
  refine ⟨fun hd => ?_, fun hd => ?_, fun ha => ?_, fun ha => ?_, fun ha hm => ?_, fun m ha hm => ?_⟩
  · exact ⟨(hrow a 0b11#2).exec_of_unset_d rfl hpc hd, (hrow a 0b01#2).exec_of_unset_d rfl hpc hd⟩
  · exact ⟨(hrow a 0b11#2).commits rfl hpc hd, (hrow a 0b01#2).commits rfl hpc hd⟩
  · simp only [List.forall_mem_cons]
    exact ⟨(hrow false 0b10#2).exec_of_unset_a rfl hpc ha, (hrow false 0b00#2).exec_of_unset_a rfl hpc ha,
      (hrow true 0b10#2).exec_of_unset_a rfl hpc ha, (hrow true 0b00#2).exec_of_unset_a rfl hpc ha,
      List.forall_mem_nil _⟩
  · exact ⟨(hrow false 0b10#2).exec_onA rfl hpc ha rfl, (hrow false 0b00#2).exec_onA rfl hpc ha rfl⟩
  · exact ⟨(hrow true 0b10#2).exec_of_no_dataWord rfl hpc ha rfl hm,
      (hrow true 0b00#2).exec_of_no_dataWord rfl hpc ha rfl hm⟩
  · exact ⟨(hrow true 0b10#2).exec_onM rfl hpc ha rfl hm, (hrow true 0b00#2).exec_onM rfl hpc ha rfl hm⟩

/-- Settles O24: as O23, with the direction in the bit `a`. -/
theorem shiftsWithSelectorBAtFive : Obligations.ShiftsWithSelectorBAtFive := by
  intro s ign d j hpc hv hlo
  have hrow (left : Bool) (sel : BitVec 1) := shiftRow_five hv hlo left sel ign d j
  refine ⟨fun hd => ?_, fun hd => ?_, fun ha => ?_, fun ha => ?_, fun ha hm => ?_, fun m ha hm => ?_⟩
  · exact ⟨(hrow true 0b1#1).exec_of_unset_d rfl hpc hd, (hrow false 0b1#1).exec_of_unset_d rfl hpc hd⟩
  · exact ⟨(hrow true 0b1#1).commits rfl hpc hd, (hrow false 0b1#1).commits rfl hpc hd⟩
  · exact ⟨(hrow false 0b0#1).exec_of_unset_a rfl hpc ha, (hrow true 0b0#1).exec_of_unset_a rfl hpc ha⟩
  · exact (hrow false 0b0#1).exec_onA rfl hpc ha rfl
  · exact (hrow true 0b0#1).exec_of_no_dataWord rfl hpc ha rfl hm
  · exact (hrow true 0b0#1).exec_onM rfl hpc ha rfl hm

/-! ### The standard path (R340, R350) -/

theorem State.exists_dataWord_of_ready {f : CFields} {s : State} (hready : s.ready f = true)
    (hread : readsM s.params f = true) : ∃ m, s.dataWord = some m := by
  simp only [State.ready, State.computable, hread, Bool.not_true, Bool.false_or, Bool.and_eq_true] at hready
  obtain ⟨⟨-, hword⟩, -⟩ := hready
  exact Option.isSome_iff_exists.mp hword

/-- Settles O25: the two rows have one format, and with its needs met the row completes with the ALU's result, on the word at
A only where `zy` is clear. -/
theorem standardPathRow : Obligations.StandardPathRow := by
  intro s a c d j hv
  have hpath : s.standardPath 0b11#2 := .inr rfl
  have hformat := format_decodeComputation 0b11#2 a c d j
  refine ⟨exec_congr (i := .standardPath a c d j) hformat.symm s, fun hready => ?_⟩
  rw [exec_of_ready (i := .standardPath a c d j) rfl hready]
  refine ⟨?_, ?_, ?_⟩
  · rintro rfl
    rw [resultC_onA hpath, traceC_of_no_read hpath (.inl rfl)]
  · rintro rfl hzy
    rw [resultC_onM_of_zy hpath hzy, traceC_of_no_read hpath (.inr hzy)]
  · rintro rfl hzy
    obtain ⟨m, hm⟩ := State.exists_dataWord_of_ready hready (by rw [readsM_of_standardPath hpath, hzy]; rfl)
    exact ⟨m, hm, by rw [resultC_onM hpath hzy hm, traceC_onM hpath hzy]⟩

/-- The state on the machine of the other variant. -/
def State.setVariant (s : State) (v : Variant) : State := { s with params := { s.params with variant := v } }

theorem State.readM_setVariant (s : State) (v : Variant) : (s.setVariant v).readM = s.readM.setVariant v := by
  rw [State.readM, State.readM, apply_ite (State.setVariant · v)]
  rfl

theorem State.writeM_setVariant (s : State) (v : Variant) (out : Word) :
    (s.setVariant v).writeM out = (s.writeM out).setVariant v := by
  rw [State.writeM, State.writeM, apply_ite (State.setVariant · v)]
  rfl

theorem commit_setVariant (d : Dest) (j : Jump) (out : Word) (s : State) (v : Variant) :
    commit d j out (s.setVariant v) = (commit d j out s).setVariant v := by
  unfold commit
  rw [State.writeM_setVariant]
  cases d.toM <;> cases d.toD <;> cases d.toA <;> rfl

section
variable {f : CFields} (h3 : f.e = 0b11#2) (s : State) (v : Variant)
include h3

/-- R340: on the path that the two variants share, the needs are those of the ALU's code on either. -/
theorem needs_setVariant : needsX (s.setVariant v).params f = needsX s.params f ∧
    needsY (s.setVariant v).params f = needsY s.params f := by
  obtain ⟨hx, hy⟩ := needs_of_standardPath (p := s.params) (.inr h3)
  obtain ⟨hx', hy'⟩ := needs_of_standardPath (p := (s.setVariant v).params) (.inr h3)
  exact ⟨hx'.trans hx.symm, hy'.trans hy.symm⟩

theorem readsM_setVariant : readsM (s.setVariant v).params f = readsM s.params f := by
  obtain ⟨-, hy⟩ := needs_setVariant h3 s v
  rw [readsM, readsM, hy]

theorem traceC_setVariant : traceC f (s.setVariant v) = (traceC f s).setVariant v := by
  rw [traceC, traceC, readsM_setVariant h3, State.readM_setVariant, apply_ite (State.setVariant · v)]

theorem resultC_setVariant : resultC f (s.setVariant v) = resultC f s := by
  obtain ⟨-, hy⟩ := needs_setVariant h3 s v
  have hop : yOperand f (s.setVariant v) = yOperand f s := by
    rw [yOperand, hy]
    rfl
  rw [resultC, resultC, functionUnit_of_standardPath (.inr h3), functionUnit_of_standardPath (.inr h3), hop]
  rfl

theorem faultC_setVariant : faultC f (s.setVariant v) = faultC f s := by
  obtain ⟨hx, hy⟩ := needs_setVariant h3 s v
  rw [faultC, hx, hy, readsM_setVariant h3, resultC_setVariant h3]
  rfl

theorem execC_setVariant_next {t : State} (h : execC f s = .next t) :
    execC f (s.setVariant v) = .next (t.setVariant v) := by
  obtain ⟨hfault, rfl⟩ := execC_next.mp h
  rw [execC_next, faultC_setVariant h3, resultC_setVariant h3, traceC_setVariant h3, commit_setVariant]
  exact ⟨hfault, rfl⟩

end

/-- Settles O8: both machines read the word's fields, and no part of the tick on the shared path asks for the variant, which
the tick keeps. -/
theorem sameInBothVariants : Obligations.SameInBothVariants := by
  intro s w hclass (h3 : (fieldsOf w).e = 0b11#2) s1 s2
  have hs2 : s2 = s1.setVariant .extended := rfl
  simp only [exec_of_cInstr (format_decode_of_cInstr hclass _), execC_fault, hs2, faultC_setVariant h3, true_and,
    implies_true]
  intro t h
  have hparams : t.params = s1.params := by
    obtain ⟨-, rfl⟩ := execC_next.mp h
    simp
  rw [execC_setVariant_next h3 s1 .extended h, State.setVariant, State.setVariant, hparams]

end Sys2Proof.Machine

/-! The next PC (spec 60_exceptions.md R374). -/

namespace Sys2Proof.Machine

/-- Settles O33: the PC's next value is `nextPc` in the end of either tick, of a jump's condition in that of a C-instruction
and of no jump in that of an A-instruction. -/
theorem nextPcPriority : Obligations.NextPcPriority := by
  intro i s t hexec
  obtain ⟨-, ⟨v, hv, rfl⟩ | ⟨f, hf, -, rfl⟩⟩ := exec_next_cases hexec
  · rw [State.loadA_pc, State.advance_pc]
    exact ⟨fun hreset => nextPc_of_reset hreset _, fun hreset _ _ => toNat_nextPc_not_taken hreset,
      fun _ _ hf => (nomatch hv.symm.trans hf)⟩
  · rw [commit_pc, traceC_nextPc]
    refine ⟨fun hreset => nextPc_of_reset hreset _, fun _ _ hv => (nomatch hf.symm.trans hv), fun hreset f' hf' => ?_⟩
    cases hf.symm.trans hf'
    exact ⟨fun hjump => by rw [hjump, nextPc_of_taken hreset], fun hstay => by rw [hstay, toNat_nextPc_not_taken hreset]⟩

end Sys2Proof.Machine

/-! Reset, launch and the end of a run (spec 70_reset_and_hazards.md R403 to R410). -/

namespace Sys2Proof.Machine

/-! ### The initial states meet the invariant (R403, R405) -/

theorem State.launch_marksWf (p : Params) (rom : Memory) : (State.launch p rom).marksWf = true :=
  State.marksWf_iff.mpr ⟨fun _ => rfl, fun _ => rfl, fun _ => rfl, fun hp => State.launch_unset_of_zero hp rom⟩

theorem State.powerOn_marksWf (p : Params) (rom : Memory) : (State.powerOn p rom).marksWf = true := by
  refine State.marksWf_iff.mpr ⟨fun _ => rfl, fun _ => rfl, fun _ => rfl, fun (hp : p.initPolicy = .zero) => ?_⟩
  rw [State.powerOn_of_zero hp, State.launch_unset_of_zero hp]

/-- Settles O38: neither state lists a data cell, and each register holds 0 beside its mark. -/
theorem initialStatesAreWf : Obligations.InitialStatesAreWf := by
  have hlaunch (p : Params) {rom : Memory} (hrom : Memory.romWf rom = true) : (State.launch p rom).wf = true :=
    State.wf_iff.mpr ⟨State.launch_mem_wf p rom, hrom, State.launch_marksWf p rom⟩
  exact ⟨hlaunch _ rfl, fun p rom hrom => ⟨hlaunch p hrom,
    State.wf_iff.mpr ⟨State.launch_mem_wf p rom, hrom, State.powerOn_marksWf p rom⟩⟩⟩

/-! ### Canonical memories without their zeros -/

/-- The data memory of `State.zeroed`: under `Zero` an unlisted cell reads as 0, so the listed zeros go. -/
def Memory.dropZeros (m : Memory) : Memory := m.filter fun c => c.2 != 0#16

theorem Memory.dropZeros_cons_zero (n : Nat) (m : Memory) : dropZeros ((n, 0#16) :: m) = dropZeros m := rfl

theorem Memory.dropZeros_cons_of_ne {u : Word} (hu : u ≠ 0#16) (n : Nat) (m : Memory) :
    dropZeros ((n, u) :: m) = (n, u) :: dropZeros m :=
  List.filter_cons_of_pos (by simpa using hu)

theorem Memory.risingFrom_some_cons {lo n : Nat} {u : Word} {m : Memory} :
    Memory.risingFrom (some lo) ((n, u) :: m) = true ↔ lo < n ∧ Memory.risingFrom (some n) m = true := by
  rw [Memory.risingFrom, Bool.and_eq_true, decide_eq_true_iff]

theorem Memory.risingFrom_tail {lo : Option Nat} {n : Nat} {u : Word} {m : Memory}
    (h : Memory.risingFrom lo ((n, u) :: m) = true) : Memory.risingFrom (some n) m = true := by
  cases lo with
  | none => exact h
  | some l => exact (risingFrom_some_cons.mp h).2

theorem Memory.risingFrom_dropZeros {lo : Nat} {m : Memory} (h : Memory.risingFrom (some lo) m = true) :
    Memory.risingFrom (some lo) m.dropZeros = true := by
  induction m generalizing lo with
  | nil => rfl
  | cons c m ih =>
    obtain ⟨n, u⟩ := c
    obtain ⟨hlo, hm⟩ := risingFrom_some_cons.mp h
    by_cases hu : u = 0#16
    · subst hu
      exact risingFrom_mono hlo.le (ih hm)
    · rw [dropZeros_cons_of_ne hu]
      exact risingFrom_some_cons.mpr ⟨hlo, ih hm⟩

theorem Memory.lookup_of_risingFrom {k : Nat} {m : Memory} (h : Memory.risingFrom (some k) m = true) :
    Memory.lookup m k = none := by
  induction m with
  | nil => rfl
  | cons c m ih =>
    obtain ⟨n, u⟩ := c
    obtain ⟨hk, hm⟩ := risingFrom_some_cons.mp h
    rw [Memory.lookup, if_neg hk.ne']
    exact ih (risingFrom_mono hk.le hm)

theorem Memory.erase_of_risingFrom {k : Nat} {m : Memory} (h : Memory.risingFrom (some k) m = true) :
    Memory.erase m k = m := by
  induction m with
  | nil => rfl
  | cons c m ih =>
    obtain ⟨n, u⟩ := c
    obtain ⟨hk, hm⟩ := risingFrom_some_cons.mp h
    rw [Memory.erase, if_neg hk.ne', ih (risingFrom_mono hk.le hm)]

theorem Memory.insert_of_risingFrom {k : Nat} {m : Memory} (h : Memory.risingFrom (some k) m = true) (v : Word) :
    Memory.insert m k v = (k, v) :: m := by
  cases m with
  | nil => rfl
  | cons c m => rw [Memory.insert, if_pos (risingFrom_some_cons.mp h).1]

theorem Memory.lookup_dropZeros {m : Memory} {lo : Option Nat} (h : Memory.risingFrom lo m = true) (k : Nat) :
    (Memory.lookup m.dropZeros k).getD 0#16 = (Memory.lookup m k).getD 0#16 := by
  induction m generalizing lo with
  | nil => rfl
  | cons c m ih =>
    obtain ⟨n, u⟩ := c
    have hm := risingFrom_tail h
    by_cases hu : u = 0#16
    · subst hu
      rw [dropZeros_cons_zero, ih hm, Memory.lookup]
      split
      case isTrue hn => rw [← hn, lookup_of_risingFrom hm]; rfl
      case isFalse => rfl
    · rw [dropZeros_cons_of_ne hu, Memory.lookup, Memory.lookup]
      split
      case isTrue => rfl
      case isFalse => exact ih hm

theorem Memory.store_undefined (m : Memory) (k : Nat) (v : Word) :
    Memory.store .undefined m k v = Memory.insert m k v := if_neg (Option.some_ne_none v).symm

theorem Memory.store_zero (m : Memory) (k : Nat) (v : Word) :
    Memory.store .zero m k v = if v = 0#16 then Memory.erase m k else Memory.insert m k v := by
  simp only [Memory.store, unlisted, Option.some_inj, eq_comm]

theorem Memory.store_cons_of_lt {n k : Nat} (hn : n < k) (ip : InitPolicy) (u : Word) (m : Memory) (v : Word) :
    Memory.store ip ((n, u) :: m) k v = (n, u) :: Memory.store ip m k v := by
  rw [Memory.store, Memory.store, Memory.erase, Memory.insert, if_neg hn.ne, if_neg hn.asymm, if_neg hn.ne']
  split <;> rfl

theorem Memory.store_cons_same {k : Nat} {m : Memory} (h : Memory.risingFrom (some k) m = true) (ip : InitPolicy)
    (u v : Word) : Memory.store ip ((k, u) :: m) k v = Memory.store ip m k v := by
  rw [Memory.store, Memory.store, Memory.erase, if_pos rfl, insert_of_risingFrom h, Memory.insert,
    if_neg (lt_irrefl k), if_pos rfl]

theorem Memory.dropZeros_cons {k : Nat} {m : Memory} (h : Memory.risingFrom (some k) m = true) (v : Word) :
    dropZeros ((k, v) :: m) = Memory.store .zero m.dropZeros k v := by
  rw [store_zero]
  split
  case isTrue hv => rw [hv, dropZeros_cons_zero, erase_of_risingFrom (risingFrom_dropZeros h)]
  case isFalse hv => rw [dropZeros_cons_of_ne hv, insert_of_risingFrom (risingFrom_dropZeros h)]

/-- A store under `Undefined` lists its word, whatever it is; under `Zero` a stored 0 is not listed. -/
theorem Memory.dropZeros_store {m : Memory} {lo : Option Nat} (h : Memory.risingFrom lo m = true) (k : Nat) (v : Word) :
    (Memory.store .undefined m k v).dropZeros = Memory.store .zero m.dropZeros k v := by
  rw [store_undefined]
  induction m generalizing lo with
  | nil => exact dropZeros_cons rfl v
  | cons c m ih =>
    obtain ⟨n, u⟩ := c
    have hm := risingFrom_tail h
    rcases lt_trichotomy k n with hk | rfl | hk
    · rw [Memory.insert, if_pos hk, dropZeros_cons (risingFrom_some_cons.mpr ⟨hk, hm⟩)]
    · rw [Memory.insert, if_neg (lt_irrefl k), if_pos rfl, dropZeros_cons hm]
      by_cases hu : u = 0#16
      · rw [hu, dropZeros_cons_zero]
      · rw [dropZeros_cons_of_ne hu, store_cons_same (risingFrom_dropZeros hm)]
    · rw [Memory.insert, if_neg hk.asymm, if_neg hk.ne']
      by_cases hu : u = 0#16
      · rw [hu, dropZeros_cons_zero, dropZeros_cons_zero, ih hm]
      · rw [dropZeros_cons_of_ne hu, dropZeros_cons_of_ne hu, store_cons_of_lt hk, ih hm]

/-! ### A tick under `Undefined` and under `Zero` (R404) -/

theorem State.rising_of_wf {s : State} (h : s.wf = true) : Memory.risingFrom none s.mem = true := by
  obtain ⟨hmem, -, -⟩ := State.wf_iff.mp h
  rw [Memory.wf, Bool.and_eq_true] at hmem
  exact hmem.1

theorem State.cell_getD (s : State) (k : Addr) :
    (s.cell k).getD 0#16 = (Memory.lookup s.mem k.toNat).getD 0#16 := by
  unfold State.cell
  cases Memory.lookup s.mem k.toNat <;> cases s.params.initPolicy <;> rfl

section
variable {s : State} (hrising : Memory.risingFrom none s.mem = true)
include hrising

/-- Where a read has no value under `Undefined` it has 0 under `Zero`. -/
theorem State.dataWord_zeroed : s.zeroed.dataWord.getD 0#16 = s.dataWord.getD 0#16 := by
  cases hb : s.backed s.addressM with
  | true =>
    rw [State.dataWord_of_backed hb, State.dataWord_of_backed (s := s.zeroed) hb, State.cell_getD, State.cell_getD]
    exact Memory.lookup_dropZeros hrising _
  | false => rw [State.dataWord_of_platform hb, State.dataWord_of_platform (s := s.zeroed) hb]; rfl

/-- An operand without a value is computed with as 0 already under `Undefined`. -/
theorem resultC_zeroed (f : CFields) : resultC f s.zeroed = resultC f s := by
  have hy : yOperand f s.zeroed = yOperand f s := by
    rw [yOperand, State.dataWord_zeroed hrising]
    rfl
  rw [resultC, hy]
  rfl

theorem State.writeM_zeroed (hpolicy : s.params.initPolicy = .undefined) (v : Word) :
    s.zeroed.writeM v = (s.writeM v).zeroed := by
  cases hb : s.backed s.addressM with
  | true =>
    have hmem := Memory.dropZeros_store hrising s.addressM.toNat v
    rw [← hpolicy] at hmem
    rw [State.writeM_of_backed hb, State.writeM_of_backed (s := s.zeroed) hb]
    exact congrArg (fun m => { s.zeroed with mem := m }) hmem.symm
  | false => rw [State.writeM_of_platform hb, State.writeM_of_platform (s := s.zeroed) hb]; rfl

theorem commit_zeroed (hpolicy : s.params.initPolicy = .undefined) (d : Dest) (j : Jump) (out : Word) :
    commit d j out s.zeroed = (commit d j out s).zeroed := by
  unfold commit
  rw [State.writeM_zeroed hrising hpolicy]
  cases d.toM <;> cases d.toD <;> cases d.toA <;> rfl

end

theorem traceC_zeroed (f : CFields) (s : State) : traceC f s.zeroed = (traceC f s).zeroed := by
  rw [traceC, traceC, State.readM, State.readM, apply_ite State.zeroed, apply_ite State.zeroed]
  rfl

theorem State.ready_zeroed (f : CFields) (s : State) : s.zeroed.ready f = true := by
  have hword : s.zeroed.dataWord.isSome = true := State.dataWord_isSome_of_zero rfl
  simp [State.ready, State.computable, State.targetReady, hword, show s.zeroed.unset = ⟨false, false, false⟩ from rfl]

/-- No path of the decoder asks for the policy. -/
theorem decode_zeroed (s : State) (w : Word) : decode s.zeroed.params w = decode s.params w := rfl

/-- Settles O41: under `Zero` every need is met; where the tick completes under `Undefined` each of its parts, the result,
the trace of the read and the end, is the same but for values that are missing. -/
theorem undefinedRefinesZero : Obligations.UndefinedRefinesZero := by
  intro s t hwf hpolicy hstep
  have hrising := State.rising_of_wf hwf
  obtain ⟨w, hw, hexec⟩ := step_next_cases hstep
  have hfetch : step s.zeroed = exec (decode s.params w) s.zeroed := step_of_fetch_ok (fetch_of_loaded rfl hw)
  rw [hfetch]
  obtain ⟨-, ⟨v, hv, rfl⟩ | ⟨f, hf, -, rfl⟩⟩ := exec_next_cases hexec
  · rw [exec_of_aInstr hv, execLiteral_next]
    exact ⟨rfl, rfl⟩
  · rw [exec_of_ready hf (State.ready_zeroed f s), resultC_zeroed hrising, traceC_zeroed,
      commit_zeroed (by simpa using hrising) (by simpa using hpolicy)]

/-! ### The end of a run (R407) -/

theorem isEndWord_iff {p : Params} {w : Word} : isEndWord p w = true ↔
    w.getLsbD 15 = true ∧ fieldD w = ⟨false, false, false⟩ ∧ fieldJ w = ⟨true, true, true⟩ ∧
      needsX p (fieldsOf w) = false ∧ needsY p (fieldsOf w) = false := by
  simp [isEndWord, and_assoc]

theorem State.endWordAt_iff {s : State} {k : Nat} : s.endWordAt k = true ↔
    ∃ w, Memory.lookup s.rom k = some w ∧ isEndWord s.params w = true := by
  unfold State.endWordAt
  cases Memory.lookup s.rom k <;> simp

theorem State.resetNow_of_nil {s : State} (h : s.resetIn = []) : s.resetNow = false := by
  rw [State.resetNow, h]
  rfl

/-- The end of a tick that leaves `reset` at 0 for good. -/
theorem State.advance_of_nil {s : State} (h : s.resetIn = []) (taken : Bool) :
    s.advance taken = { s with pc := if taken then s.addressM else s.pc + 1#15 } := by
  rw [State.advance, nextPc, State.resetNow_of_nil h, h, List.tail_nil, ← h]
  rfl

/-- Without a destination the end of a tick is the PC's. -/
theorem commit_of_no_dest (j : Jump) (out : Word) (s : State) :
    commit ⟨false, false, false⟩ j out s = s.advance (jumpTaken j out) := rfl

/-- An end word needs no value but its target, and jumps there with nothing else done. -/
theorem step_of_endWord {s : State} (hpc : s.unset.pc = false) (ha : s.unset.a = false) (hreset : s.resetIn = [])
    (hend : s.endWordAt s.pc.toNat = true) : step s = .next { s with pc := s.addressM } := by
  obtain ⟨w, hw, hend⟩ := State.endWordAt_iff.mp hend
  obtain ⟨hclass, hd, hj, hx, hy⟩ := isEndWord_iff.mp hend
  have hread := readsM_of_not_needsY hy
  have hready : s.ready (fieldsOf w) = true := by
    simp [State.ready, State.computable, hpc, hx, hy, hread, State.targetReady_of_set ha]
  obtain ⟨-, -, -, -, -, -, -, hJMP⟩ := jumpTaken_codes (resultC (fieldsOf w) s)
  rw [step_of_fetch_ok (fetch_of_loaded hpc hw), exec_of_ready (format_decode_of_cInstr hclass _) hready,
    traceC_of_not_readsM hread,
    show (fieldsOf w).d = _ from hd, show (fieldsOf w).j = _ from hj, commit_of_no_dest, hJMP.mpr trivial,
    State.advance_of_nil hreset]
  rfl

theorem step_of_literal {s : State} {v : BitVec 15} (hpc : s.unset.pc = false) (hreset : s.resetIn = [])
    (hw : Memory.lookup s.rom s.pc.toNat = some (v.setWidth 16)) :
    step s = .next { s with a := v.setWidth 16, unset := { s.unset with a := false }, pc := s.pc + 1#15 } := by
  rw [step_of_fetch_ok (fetch_of_loaded hpc hw), decode_setWidth, exec_of_aInstr rfl,
    execLiteral_next.mpr ⟨hpc, rfl⟩, State.advance_of_nil hreset]
  rfl

/-- Settles O42: in case 1 the target is the PC itself; in case 2 the literal puts the loop's address into A, and the end
word after it jumps back there. -/
theorem endOfRunRepeats : Obligations.EndOfRunRepeats := by
  intro s hreset
  refine ⟨fun h => ?_, fun h => ?_⟩
  · simp only [State.endedOne, Bool.and_eq_true, Bool.not_eq_true', beq_iff_eq] at h
    obtain ⟨⟨⟨hpc, ha⟩, hend⟩, hloop⟩ := h
    rw [step_of_endWord hpc ha hreset hend, hloop]
  · simp only [State.endedTwo, Bool.and_eq_true, Bool.not_eq_true', beq_iff_eq, decide_eq_true_eq] at h
    obtain ⟨⟨⟨hpc, hw⟩, hlast⟩, hend⟩ := h
    intro t
    have hnext : (s.pc + 1#15).toNat = s.pc.toNat + 1 := by bv_omega
    refine ⟨step_of_literal hpc hreset hw, ?_⟩
    rw [step_of_endWord (s := { t with pc := s.pc + 1#15 }) hpc rfl hreset (by rw [hnext]; exact hend)]
    simp [State.addressM, t]

/-! ### The old A (R410) -/

/-- Settles O28: the instruction is ready, and the two reads of A in its end come before its load. -/
theorem oldAddressAndTarget : Obligations.OldAddressAndTarget := by
  intro s i f hi hA hready
  obtain ⟨hload, -, hstore⟩ := commit_traceC_destinations f.d f.j (resultC f s) f s
  rw [if_pos hA] at hload
  refine ⟨_, exec_of_ready hi hready, hload, fun hM => ?_, fun hjump hreset => ?_⟩
  · rwa [if_pos hM] at hstore
  · rw [commit_pc, traceC_nextPc, hjump, nextPc_of_taken hreset, State.addressM]

end Sys2Proof.Machine
